-- ==== Sys2Proof/Word.lean ====
section
/-! DEFINITION. The data sizes of the machine and the two integer-to-bits conventions of the spec
(00_scope.md R7, R8, R11). Every register and memory value is an unsigned bit pattern; `BitVec.toNat`
is the spec's `u(v)` and `BitVec.toInt` its `s(v)`. -/

namespace Sys2Proof

/-- 8 bits (R11). -/
abbrev Byte := BitVec 8

/-- 16 bits (R11). -/
abbrev Wyde := BitVec 16

/-- 32 bits (R11): the size of an instruction (R120). -/
abbrev Tetra := BitVec 32

/-- 64 bits, the spec's octa (R6, R11): the size of a register and of a virtual address. -/
abbrev Word := BitVec 64

/-- `wrap64(n)`: the integer `n` reduced modulo 2^64 to a 64-bit pattern (R8). -/
def wrap64 (n : Int) : Word := BitVec.ofInt 64 n

/-- `fits_signed_N(r)`: `-2^(N-1) <= r < 2^(N-1)` (R8). -/
abbrev fitsSigned (bits : Nat) (r : Int) : Prop :=
  -((2 ^ (bits - 1) : Nat) : Int) ≤ r ∧ r < ((2 ^ (bits - 1) : Nat) : Int)

end Sys2Proof
end

