-- ==== Sys2Proof/Config.lean ====
section
/-! DEFINITION. What is fixed for one machine: the named parameters of 00_scope.md R6 (a record `Params`,
with the spec's defaults), the values the spec leaves OPEN or calls a draw (opaque constants, which no
proof can evaluate), and the fixed addresses of the spec. -/

namespace Sys2Proof

/-- When underflow is detected (46_floating_point.md R423, parameter `TININESS`). -/
inductive Tininess where
  /-- tiny when the exact value is below the least normal number: the default of R423 -/
  | beforeRounding
  /-- tiny when the value rounded with an unbounded exponent range is below the least normal number -/
  | afterRounding
  deriving DecidableEq, Repr

/-- The named parameters of R6 that a step consults, each with the default R6 states. A step never changes
them. `ENTRY`, `INIT_RG` and `INIT_GLOBALS` act only on the initial state and are fields of the loaded image
(`Machine.Image`); `PAGE_BITS` is not observable (20_memory.md R81). -/
structure Params where
  /-- `RING_LIMIT` (10_state.md R33): `none` is the unbounded register stack. -/
  ringLimit : Option Nat := none
  /-- `NAN_RESULT` (46_floating_point.md R424). -/
  nanResult : Word := 0x7FF8000000000000#64
  /-- `TININESS` (46_floating_point.md R423). -/
  tininess : Tininess := .beforeRounding
  /-- The complement of `IMPLEMENTED` (30_encoding.md R133): the opcodes this machine does not execute.
  Empty is the default, all 256 opcodes implemented. -/
  notImplemented : List Byte := []
  deriving DecidableEq, Repr

/-- `RN_VALUE`, the fixed constant read from rN (10_state.md R45). The spec leaves it OPEN, so nothing is known
of it (assumption 2). -/
opaque Config.rnValue : Word

/-- `draw(COUNTER_READ)` (10_state.md R46): the value of the `n`-th draw, when it answers a read of rC, rI or rU
(assumption 3). -/
opaque Config.counterRead : Nat → Word

/-- `draw(FPUTS_RESULT)` (47_system.md R492): the value of the `n`-th draw, when it answers an `Fputs`
(assumption 3). -/
opaque Config.fputsResult : Nat → Word

/-- `STACK_BASE` (10_state.md R32). -/
def Config.stackBase : Word := 0x6000000000000000#64

/-- The default of `ENTRY` (70_reset_and_hazards.md R541). -/
def Config.defaultEntry : Word := 0x100#64

/-- The address to which `TRIP` sends control (60_exceptions.md R515). -/
def Config.tripHandler : Word := 0#64

end Sys2Proof
end

