-- ==== Sys2Proof/Syntax.lean ====
section
/-! DEFINITION. The instruction set as syntax: one constructor of `Instr` per row of spec/opcode_table.json, in the
table's order (30_encoding.md R135), and the names that operand fields stand for: conditions, rounding modes and
special registers.

A constructor keeps every bit of its row below OP (30_encoding.md R121): `x y z` are the bytes X, Y, Z; `yz` is the
16-bit field YZ; `xyz` the 24-bit field XYZ. What a field means (a register, an immediate, an offset, a rounding mode, a
special register) is the row's format (R122). The fourteen hints, which 47_system.md R470 makes no-operations for every
value of X, Y and Z, keep no operand and stand last (assumption 5). -/

namespace Sys2Proof

/-- The eight conditions on a 64-bit value (44_conditional_set.md R360), in the order of OP[3:1]. -/
inductive Cond where
  | n | z | p | od | nn | nz | np | ev
  deriving DecidableEq, Repr

/-- The four rounding modes (10_state.md R42, 46_floating_point.md R421). -/
inductive Rounding where
  | near | off | up | down
  deriving DecidableEq, Repr

/-- The 32 special registers by name (10_state.md R40), in the order of their numbers. -/
inductive SpecialReg where
  | rB | rD | rE | rH | rJ | rM | rR | rBB
  | rC | rN | rO | rS | rI | rT | rTT | rK
  | rQ | rU | rV | rG | rL | rA | rF | rP
  | rW | rX | rY | rZ | rWW | rXX | rYY | rZZ
  deriving DecidableEq, Repr

/-- One instruction: one constructor per row of the opcode table. -/
inductive Instr where
  /-- `TRAP`, #00, format XYZ (R489) -/
  | trap (x y z : Byte)
  /-- `FCMP`, #01, format RRR (R441) -/
  | fcmp (x y z : Byte)
  /-- `FUN`, #02, format RRR (R442) -/
  | funop (x y z : Byte)
  /-- `FEQL`, #03, format RRR (R443) -/
  | feql (x y z : Byte)
  /-- `FADD`, #04, format RRR (R427) -/
  | fadd (x y z : Byte)
  /-- `FIX`, #05, format RMR (R434) -/
  | fix (x y z : Byte)
  /-- `FSUB`, #06, format RRR (R428) -/
  | fsub (x y z : Byte)
  /-- `FIXU`, #07, format RMR (R435) -/
  | fixu (x y z : Byte)
  /-- `FLOT`, #08, format RMR (R436) -/
  | flot (x y z : Byte)
  /-- `FLOTI`, #09, format RMI (R436) -/
  | floti (x y z : Byte)
  /-- `FLOTU`, #0A, format RMR (R437) -/
  | flotu (x y z : Byte)
  /-- `FLOTUI`, #0B, format RMI (R437) -/
  | flotui (x y z : Byte)
  /-- `SFLOT`, #0C, format RMR (R438) -/
  | sflot (x y z : Byte)
  /-- `SFLOTI`, #0D, format RMI (R438) -/
  | sfloti (x y z : Byte)
  /-- `SFLOTU`, #0E, format RMR (R439) -/
  | sflotu (x y z : Byte)
  /-- `SFLOTUI`, #0F, format RMI (R439) -/
  | sflotui (x y z : Byte)
  /-- `FMUL`, #10, format RRR (R429) -/
  | fmul (x y z : Byte)
  /-- `FCMPE`, #11, format RRR (R445) -/
  | fcmpe (x y z : Byte)
  /-- `FUNE`, #12, format RRR (R446) -/
  | fune (x y z : Byte)
  /-- `FEQLE`, #13, format RRR (R447) -/
  | feqle (x y z : Byte)
  /-- `FDIV`, #14, format RRR (R430) -/
  | fdiv (x y z : Byte)
  /-- `FSQRT`, #15, format RMR (R432) -/
  | fsqrt (x y z : Byte)
  /-- `FREM`, #16, format RRR (R431) -/
  | frem (x y z : Byte)
  /-- `FINT`, #17, format RMR (R433) -/
  | fint (x y z : Byte)
  /-- `MUL`, #18, format RRR (R209) -/
  | mul (x y z : Byte)
  /-- `MULI`, #19, format RRI (R209) -/
  | muli (x y z : Byte)
  /-- `MULU`, #1A, format RRR (R210) -/
  | mulu (x y z : Byte)
  /-- `MULUI`, #1B, format RRI (R210) -/
  | mului (x y z : Byte)
  /-- `DIV`, #1C, format RRR (R211) -/
  | div (x y z : Byte)
  /-- `DIVI`, #1D, format RRI (R211) -/
  | divi (x y z : Byte)
  /-- `DIVU`, #1E, format RRR (R212) -/
  | divu (x y z : Byte)
  /-- `DIVUI`, #1F, format RRI (R212) -/
  | divui (x y z : Byte)
  /-- `ADD`, #20, format RRR (R201) -/
  | add (x y z : Byte)
  /-- `ADDI`, #21, format RRI (R201) -/
  | addi (x y z : Byte)
  /-- `ADDU`, #22, format RRR (R202) -/
  | addu (x y z : Byte)
  /-- `ADDUI`, #23, format RRI (R202) -/
  | addui (x y z : Byte)
  /-- `SUB`, #24, format RRR (R203) -/
  | sub (x y z : Byte)
  /-- `SUBI`, #25, format RRI (R203) -/
  | subi (x y z : Byte)
  /-- `SUBU`, #26, format RRR (R204) -/
  | subu (x y z : Byte)
  /-- `SUBUI`, #27, format RRI (R204) -/
  | subui (x y z : Byte)
  /-- `2ADDU`, #28, format RRR (R205) -/
  | twoAddu (x y z : Byte)
  /-- `2ADDUI`, #29, format RRI (R205) -/
  | twoAddui (x y z : Byte)
  /-- `4ADDU`, #2A, format RRR (R206) -/
  | fourAddu (x y z : Byte)
  /-- `4ADDUI`, #2B, format RRI (R206) -/
  | fourAddui (x y z : Byte)
  /-- `8ADDU`, #2C, format RRR (R207) -/
  | eightAddu (x y z : Byte)
  /-- `8ADDUI`, #2D, format RRI (R207) -/
  | eightAddui (x y z : Byte)
  /-- `16ADDU`, #2E, format RRR (R208) -/
  | sixteenAddu (x y z : Byte)
  /-- `16ADDUI`, #2F, format RRI (R208) -/
  | sixteenAddui (x y z : Byte)
  /-- `CMP`, #30, format RRR (R215) -/
  | cmp (x y z : Byte)
  /-- `CMPI`, #31, format RRI (R215) -/
  | cmpi (x y z : Byte)
  /-- `CMPU`, #32, format RRR (R216) -/
  | cmpu (x y z : Byte)
  /-- `CMPUI`, #33, format RRI (R216) -/
  | cmpui (x y z : Byte)
  /-- `NEG`, #34, format RIR (R213) -/
  | neg (x y z : Byte)
  /-- `NEGI`, #35, format RII (R213) -/
  | negi (x y z : Byte)
  /-- `NEGU`, #36, format RIR (R214) -/
  | negu (x y z : Byte)
  /-- `NEGUI`, #37, format RII (R214) -/
  | negui (x y z : Byte)
  /-- `SL`, #38, format RRR (R268) -/
  | sl (x y z : Byte)
  /-- `SLI`, #39, format RRI (R268) -/
  | sli (x y z : Byte)
  /-- `SLU`, #3A, format RRR (R269) -/
  | slu (x y z : Byte)
  /-- `SLUI`, #3B, format RRI (R269) -/
  | slui (x y z : Byte)
  /-- `SR`, #3C, format RRR (R270) -/
  | sr (x y z : Byte)
  /-- `SRI`, #3D, format RRI (R270) -/
  | sri (x y z : Byte)
  /-- `SRU`, #3E, format RRR (R271) -/
  | sru (x y z : Byte)
  /-- `SRUI`, #3F, format RRI (R271) -/
  | srui (x y z : Byte)
  /-- `BN`, #40, format BF (R381) -/
  | bn (x : Byte) (yz : Wyde)
  /-- `BNB`, #41, format BB (R381) -/
  | bnb (x : Byte) (yz : Wyde)
  /-- `BZ`, #42, format BF (R382) -/
  | bz (x : Byte) (yz : Wyde)
  /-- `BZB`, #43, format BB (R382) -/
  | bzb (x : Byte) (yz : Wyde)
  /-- `BP`, #44, format BF (R383) -/
  | bp (x : Byte) (yz : Wyde)
  /-- `BPB`, #45, format BB (R383) -/
  | bpb (x : Byte) (yz : Wyde)
  /-- `BOD`, #46, format BF (R384) -/
  | bod (x : Byte) (yz : Wyde)
  /-- `BODB`, #47, format BB (R384) -/
  | bodb (x : Byte) (yz : Wyde)
  /-- `BNN`, #48, format BF (R385) -/
  | bnn (x : Byte) (yz : Wyde)
  /-- `BNNB`, #49, format BB (R385) -/
  | bnnb (x : Byte) (yz : Wyde)
  /-- `BNZ`, #4A, format BF (R386) -/
  | bnz (x : Byte) (yz : Wyde)
  /-- `BNZB`, #4B, format BB (R386) -/
  | bnzb (x : Byte) (yz : Wyde)
  /-- `BNP`, #4C, format BF (R387) -/
  | bnp (x : Byte) (yz : Wyde)
  /-- `BNPB`, #4D, format BB (R387) -/
  | bnpb (x : Byte) (yz : Wyde)
  /-- `BEV`, #4E, format BF (R388) -/
  | bev (x : Byte) (yz : Wyde)
  /-- `BEVB`, #4F, format BB (R388) -/
  | bevb (x : Byte) (yz : Wyde)
  /-- `PBN`, #50, format BF (R389) -/
  | pbn (x : Byte) (yz : Wyde)
  /-- `PBNB`, #51, format BB (R389) -/
  | pbnb (x : Byte) (yz : Wyde)
  /-- `PBZ`, #52, format BF (R390) -/
  | pbz (x : Byte) (yz : Wyde)
  /-- `PBZB`, #53, format BB (R390) -/
  | pbzb (x : Byte) (yz : Wyde)
  /-- `PBP`, #54, format BF (R391) -/
  | pbp (x : Byte) (yz : Wyde)
  /-- `PBPB`, #55, format BB (R391) -/
  | pbpb (x : Byte) (yz : Wyde)
  /-- `PBOD`, #56, format BF (R392) -/
  | pbod (x : Byte) (yz : Wyde)
  /-- `PBODB`, #57, format BB (R392) -/
  | pbodb (x : Byte) (yz : Wyde)
  /-- `PBNN`, #58, format BF (R393) -/
  | pbnn (x : Byte) (yz : Wyde)
  /-- `PBNNB`, #59, format BB (R393) -/
  | pbnnb (x : Byte) (yz : Wyde)
  /-- `PBNZ`, #5A, format BF (R394) -/
  | pbnz (x : Byte) (yz : Wyde)
  /-- `PBNZB`, #5B, format BB (R394) -/
  | pbnzb (x : Byte) (yz : Wyde)
  /-- `PBNP`, #5C, format BF (R395) -/
  | pbnp (x : Byte) (yz : Wyde)
  /-- `PBNPB`, #5D, format BB (R395) -/
  | pbnpb (x : Byte) (yz : Wyde)
  /-- `PBEV`, #5E, format BF (R396) -/
  | pbev (x : Byte) (yz : Wyde)
  /-- `PBEVB`, #5F, format BB (R396) -/
  | pbevb (x : Byte) (yz : Wyde)
  /-- `CSN`, #60, format RRR (R361) -/
  | csn (x y z : Byte)
  /-- `CSNI`, #61, format RRI (R361) -/
  | csni (x y z : Byte)
  /-- `CSZ`, #62, format RRR (R362) -/
  | csz (x y z : Byte)
  /-- `CSZI`, #63, format RRI (R362) -/
  | cszi (x y z : Byte)
  /-- `CSP`, #64, format RRR (R363) -/
  | csp (x y z : Byte)
  /-- `CSPI`, #65, format RRI (R363) -/
  | cspi (x y z : Byte)
  /-- `CSOD`, #66, format RRR (R364) -/
  | csod (x y z : Byte)
  /-- `CSODI`, #67, format RRI (R364) -/
  | csodi (x y z : Byte)
  /-- `CSNN`, #68, format RRR (R365) -/
  | csnn (x y z : Byte)
  /-- `CSNNI`, #69, format RRI (R365) -/
  | csnni (x y z : Byte)
  /-- `CSNZ`, #6A, format RRR (R366) -/
  | csnz (x y z : Byte)
  /-- `CSNZI`, #6B, format RRI (R366) -/
  | csnzi (x y z : Byte)
  /-- `CSNP`, #6C, format RRR (R367) -/
  | csnp (x y z : Byte)
  /-- `CSNPI`, #6D, format RRI (R367) -/
  | csnpi (x y z : Byte)
  /-- `CSEV`, #6E, format RRR (R368) -/
  | csev (x y z : Byte)
  /-- `CSEVI`, #6F, format RRI (R368) -/
  | csevi (x y z : Byte)
  /-- `ZSN`, #70, format RRR (R369) -/
  | zsn (x y z : Byte)
  /-- `ZSNI`, #71, format RRI (R369) -/
  | zsni (x y z : Byte)
  /-- `ZSZ`, #72, format RRR (R370) -/
  | zsz (x y z : Byte)
  /-- `ZSZI`, #73, format RRI (R370) -/
  | zszi (x y z : Byte)
  /-- `ZSP`, #74, format RRR (R371) -/
  | zsp (x y z : Byte)
  /-- `ZSPI`, #75, format RRI (R371) -/
  | zspi (x y z : Byte)
  /-- `ZSOD`, #76, format RRR (R372) -/
  | zsod (x y z : Byte)
  /-- `ZSODI`, #77, format RRI (R372) -/
  | zsodi (x y z : Byte)
  /-- `ZSNN`, #78, format RRR (R373) -/
  | zsnn (x y z : Byte)
  /-- `ZSNNI`, #79, format RRI (R373) -/
  | zsnni (x y z : Byte)
  /-- `ZSNZ`, #7A, format RRR (R374) -/
  | zsnz (x y z : Byte)
  /-- `ZSNZI`, #7B, format RRI (R374) -/
  | zsnzi (x y z : Byte)
  /-- `ZSNP`, #7C, format RRR (R375) -/
  | zsnp (x y z : Byte)
  /-- `ZSNPI`, #7D, format RRI (R375) -/
  | zsnpi (x y z : Byte)
  /-- `ZSEV`, #7E, format RRR (R376) -/
  | zsev (x y z : Byte)
  /-- `ZSEVI`, #7F, format RRI (R376) -/
  | zsevi (x y z : Byte)
  /-- `LDB`, #80, format RRR (R321) -/
  | ldb (x y z : Byte)
  /-- `LDBI`, #81, format RRI (R321) -/
  | ldbi (x y z : Byte)
  /-- `LDBU`, #82, format RRR (R322) -/
  | ldbu (x y z : Byte)
  /-- `LDBUI`, #83, format RRI (R322) -/
  | ldbui (x y z : Byte)
  /-- `LDW`, #84, format RRR (R323) -/
  | ldw (x y z : Byte)
  /-- `LDWI`, #85, format RRI (R323) -/
  | ldwi (x y z : Byte)
  /-- `LDWU`, #86, format RRR (R324) -/
  | ldwu (x y z : Byte)
  /-- `LDWUI`, #87, format RRI (R324) -/
  | ldwui (x y z : Byte)
  /-- `LDT`, #88, format RRR (R325) -/
  | ldt (x y z : Byte)
  /-- `LDTI`, #89, format RRI (R325) -/
  | ldti (x y z : Byte)
  /-- `LDTU`, #8A, format RRR (R326) -/
  | ldtu (x y z : Byte)
  /-- `LDTUI`, #8B, format RRI (R326) -/
  | ldtui (x y z : Byte)
  /-- `LDO`, #8C, format RRR (R327) -/
  | ldo (x y z : Byte)
  /-- `LDOI`, #8D, format RRI (R327) -/
  | ldoi (x y z : Byte)
  /-- `LDOU`, #8E, format RRR (R328) -/
  | ldou (x y z : Byte)
  /-- `LDOUI`, #8F, format RRI (R328) -/
  | ldoui (x y z : Byte)
  /-- `LDSF`, #90, format RRR (R329) -/
  | ldsf (x y z : Byte)
  /-- `LDSFI`, #91, format RRI (R329) -/
  | ldsfi (x y z : Byte)
  /-- `LDHT`, #92, format RRR (R330) -/
  | ldht (x y z : Byte)
  /-- `LDHTI`, #93, format RRI (R330) -/
  | ldhti (x y z : Byte)
  /-- `CSWAP`, #94, format RRR (R331) -/
  | cswap (x y z : Byte)
  /-- `CSWAPI`, #95, format RRI (R331) -/
  | cswapi (x y z : Byte)
  /-- `LDUNC`, #96, format RRR (R332) -/
  | ldunc (x y z : Byte)
  /-- `LDUNCI`, #97, format RRI (R332) -/
  | ldunci (x y z : Byte)
  /-- `GO`, #9E, format RRR (R399) -/
  | go (x y z : Byte)
  /-- `GOI`, #9F, format RRI (R399) -/
  | goi (x y z : Byte)
  /-- `STB`, #A0, format RRR (R333) -/
  | stb (x y z : Byte)
  /-- `STBI`, #A1, format RRI (R333) -/
  | stbi (x y z : Byte)
  /-- `STBU`, #A2, format RRR (R334) -/
  | stbu (x y z : Byte)
  /-- `STBUI`, #A3, format RRI (R334) -/
  | stbui (x y z : Byte)
  /-- `STW`, #A4, format RRR (R335) -/
  | stw (x y z : Byte)
  /-- `STWI`, #A5, format RRI (R335) -/
  | stwi (x y z : Byte)
  /-- `STWU`, #A6, format RRR (R336) -/
  | stwu (x y z : Byte)
  /-- `STWUI`, #A7, format RRI (R336) -/
  | stwui (x y z : Byte)
  /-- `STT`, #A8, format RRR (R337) -/
  | stt (x y z : Byte)
  /-- `STTI`, #A9, format RRI (R337) -/
  | stti (x y z : Byte)
  /-- `STTU`, #AA, format RRR (R338) -/
  | sttu (x y z : Byte)
  /-- `STTUI`, #AB, format RRI (R338) -/
  | sttui (x y z : Byte)
  /-- `STO`, #AC, format RRR (R339) -/
  | sto (x y z : Byte)
  /-- `STOI`, #AD, format RRI (R339) -/
  | stoi (x y z : Byte)
  /-- `STOU`, #AE, format RRR (R340) -/
  | stou (x y z : Byte)
  /-- `STOUI`, #AF, format RRI (R340) -/
  | stoui (x y z : Byte)
  /-- `STSF`, #B0, format RRR (R341) -/
  | stsf (x y z : Byte)
  /-- `STSFI`, #B1, format RRI (R341) -/
  | stsfi (x y z : Byte)
  /-- `STHT`, #B2, format RRR (R342) -/
  | stht (x y z : Byte)
  /-- `STHTI`, #B3, format RRI (R342) -/
  | sthti (x y z : Byte)
  /-- `STCO`, #B4, format RRR (R343) -/
  | stco (x y z : Byte)
  /-- `STCOI`, #B5, format RRI (R343) -/
  | stcoi (x y z : Byte)
  /-- `STUNC`, #B6, format RRR (R344) -/
  | stunc (x y z : Byte)
  /-- `STUNCI`, #B7, format RRI (R344) -/
  | stunci (x y z : Byte)
  /-- `PUSHGO`, #BE, format RRR (R402) -/
  | pushgo (x y z : Byte)
  /-- `PUSHGOI`, #BF, format RRI (R402) -/
  | pushgoi (x y z : Byte)
  /-- `OR`, #C0, format RRR (R260) -/
  | or (x y z : Byte)
  /-- `ORI`, #C1, format RRI (R260) -/
  | ori (x y z : Byte)
  /-- `ORN`, #C2, format RRR (R261) -/
  | orn (x y z : Byte)
  /-- `ORNI`, #C3, format RRI (R261) -/
  | orni (x y z : Byte)
  /-- `NOR`, #C4, format RRR (R262) -/
  | nor (x y z : Byte)
  /-- `NORI`, #C5, format RRI (R262) -/
  | nori (x y z : Byte)
  /-- `XOR`, #C6, format RRR (R263) -/
  | xor (x y z : Byte)
  /-- `XORI`, #C7, format RRI (R263) -/
  | xori (x y z : Byte)
  /-- `AND`, #C8, format RRR (R264) -/
  | and (x y z : Byte)
  /-- `ANDI`, #C9, format RRI (R264) -/
  | andi (x y z : Byte)
  /-- `ANDN`, #CA, format RRR (R265) -/
  | andn (x y z : Byte)
  /-- `ANDNI`, #CB, format RRI (R265) -/
  | andni (x y z : Byte)
  /-- `NAND`, #CC, format RRR (R266) -/
  | nand (x y z : Byte)
  /-- `NANDI`, #CD, format RRI (R266) -/
  | nandi (x y z : Byte)
  /-- `NXOR`, #CE, format RRR (R267) -/
  | nxor (x y z : Byte)
  /-- `NXORI`, #CF, format RRI (R267) -/
  | nxori (x y z : Byte)
  /-- `BDIF`, #D0, format RRR (R272) -/
  | bdif (x y z : Byte)
  /-- `BDIFI`, #D1, format RRI (R272) -/
  | bdifi (x y z : Byte)
  /-- `WDIF`, #D2, format RRR (R273) -/
  | wdif (x y z : Byte)
  /-- `WDIFI`, #D3, format RRI (R273) -/
  | wdifi (x y z : Byte)
  /-- `TDIF`, #D4, format RRR (R274) -/
  | tdif (x y z : Byte)
  /-- `TDIFI`, #D5, format RRI (R274) -/
  | tdifi (x y z : Byte)
  /-- `ODIF`, #D6, format RRR (R275) -/
  | odif (x y z : Byte)
  /-- `ODIFI`, #D7, format RRI (R275) -/
  | odifi (x y z : Byte)
  /-- `MUX`, #D8, format RRR (R276) -/
  | mux (x y z : Byte)
  /-- `MUXI`, #D9, format RRI (R276) -/
  | muxi (x y z : Byte)
  /-- `SADD`, #DA, format RRR (R277) -/
  | sadd (x y z : Byte)
  /-- `SADDI`, #DB, format RRI (R277) -/
  | saddi (x y z : Byte)
  /-- `MOR`, #DC, format RRR (R278) -/
  | mor (x y z : Byte)
  /-- `MORI`, #DD, format RRI (R278) -/
  | mori (x y z : Byte)
  /-- `MXOR`, #DE, format RRR (R279) -/
  | mxor (x y z : Byte)
  /-- `MXORI`, #DF, format RRI (R279) -/
  | mxori (x y z : Byte)
  /-- `SETH`, #E0, format RW (R300) -/
  | seth (x : Byte) (yz : Wyde)
  /-- `SETMH`, #E1, format RW (R301) -/
  | setmh (x : Byte) (yz : Wyde)
  /-- `SETML`, #E2, format RW (R302) -/
  | setml (x : Byte) (yz : Wyde)
  /-- `SETL`, #E3, format RW (R303) -/
  | setl (x : Byte) (yz : Wyde)
  /-- `INCH`, #E4, format RW (R304) -/
  | inch (x : Byte) (yz : Wyde)
  /-- `INCMH`, #E5, format RW (R305) -/
  | incmh (x : Byte) (yz : Wyde)
  /-- `INCML`, #E6, format RW (R306) -/
  | incml (x : Byte) (yz : Wyde)
  /-- `INCL`, #E7, format RW (R307) -/
  | incl (x : Byte) (yz : Wyde)
  /-- `ORH`, #E8, format RW (R308) -/
  | orh (x : Byte) (yz : Wyde)
  /-- `ORMH`, #E9, format RW (R309) -/
  | ormh (x : Byte) (yz : Wyde)
  /-- `ORML`, #EA, format RW (R310) -/
  | orml (x : Byte) (yz : Wyde)
  /-- `ORL`, #EB, format RW (R311) -/
  | orl (x : Byte) (yz : Wyde)
  /-- `ANDNH`, #EC, format RW (R312) -/
  | andnh (x : Byte) (yz : Wyde)
  /-- `ANDNMH`, #ED, format RW (R313) -/
  | andnmh (x : Byte) (yz : Wyde)
  /-- `ANDNML`, #EE, format RW (R314) -/
  | andnml (x : Byte) (yz : Wyde)
  /-- `ANDNL`, #EF, format RW (R315) -/
  | andnl (x : Byte) (yz : Wyde)
  /-- `JMP`, #F0, format JF (R397) -/
  | jmp (xyz : BitVec 24)
  /-- `JMPB`, #F1, format JB (R397) -/
  | jmpb (xyz : BitVec 24)
  /-- `PUSHJ`, #F2, format PF (R401) -/
  | pushj (x : Byte) (yz : Wyde)
  /-- `PUSHJB`, #F3, format PB (R401) -/
  | pushjb (x : Byte) (yz : Wyde)
  /-- `GETA`, #F4, format GF (R398) -/
  | geta (x : Byte) (yz : Wyde)
  /-- `GETAB`, #F5, format GB (R398) -/
  | getab (x : Byte) (yz : Wyde)
  /-- `PUT`, #F6, format XSR (R477) -/
  | put (x y z : Byte)
  /-- `PUTI`, #F7, format XSI (R477) -/
  | puti (x y z : Byte)
  /-- `POP`, #F8, format POP (R403) -/
  | pop (x : Byte) (yz : Wyde)
  /-- `RESUME`, #F9, format RES (R495) -/
  | resume (x y z : Byte)
  /-- `SAVE`, #FA, format SAVE (R481) -/
  | save (x y z : Byte)
  /-- `UNSAVE`, #FB, format UNSAVE (R482) -/
  | unsave (x y z : Byte)
  /-- `GET`, #FE, format RS (R476) -/
  | get (x y z : Byte)
  /-- `TRIP`, #FF, format TRP (R494) -/
  | trip (x y z : Byte)
  /-- `LDVTS`, #98, format RRR (R488) -/
  | ldvts
  /-- `LDVTSI`, #99, format RRI (R488) -/
  | ldvtsi
  /-- `PRELD`, #9A, format RRR (R471) -/
  | preld
  /-- `PRELDI`, #9B, format RRI (R471) -/
  | preldi
  /-- `PREGO`, #9C, format RRR (R472) -/
  | prego
  /-- `PREGOI`, #9D, format RRI (R472) -/
  | pregoi
  /-- `SYNCD`, #B8, format RRR (R487) -/
  | syncd
  /-- `SYNCDI`, #B9, format RRI (R487) -/
  | syncdi
  /-- `PREST`, #BA, format RRR (R473) -/
  | prest
  /-- `PRESTI`, #BB, format RRI (R473) -/
  | presti
  /-- `SYNCID`, #BC, format RRR (R475) -/
  | syncid
  /-- `SYNCIDI`, #BD, format RRI (R475) -/
  | syncidi
  /-- `SYNC`, #FC, format XYZ (R486) -/
  | sync
  /-- `SWYM`, #FD, format XYZ (R474) -/
  | swym
  deriving DecidableEq, Repr

end Sys2Proof
end

