-- ==== Sys2Proof/WellFormed.lean ====
section
/-! DEFINITION. Which instructions pass every check the spec makes on the instruction's fields alone (30_encoding.md
R127, R128, R130; 60_exceptions.md R512 items 2 and 3). An instruction that does not is still decoded and still
executes: it raises the fault its own rule names (R129). -/

namespace Sys2Proof

/-- A rounding-mode field Y of formats RMR and RMI: 0 to 4 are legal (R127). -/
def roundingFieldLegal (y : Byte) : Bool := decide (y.toNat ≤ 4)

/-- A special-register number field (R128). -/
def specialNumberLegal (n : Byte) : Bool := decide (n.toNat < 32)

/-- A special register that `PUT` may write: not rN, rO, rS (illegal) and not rC, rI, rT, rTT, rK, rQ, rU, rV
(privileged); those are the numbers 8 to 18 (10_state.md R40, R130). -/
def specialWritable (n : Byte) : Bool := decide (n.toNat < 8 ∨ 18 < n.toNat)

/-- A TRAP service and its argument (47_system.md R489, R492): `Halt`, or `Fputs` to the handle 1 or 2. -/
def trapServiceLegal (y z : Byte) : Bool :=
  decide (y.toNat = 0 ∨ (y.toNat = 7 ∧ (z.toNat = 1 ∨ z.toNat = 2)))

/-- No check on the fields of `i` fails (R130, R512). -/
def wellFormed (i : Instr) : Bool :=
  match i with
  | .fix _ y _ | .fixu _ y _ | .flot _ y _ | .floti _ y _ | .flotu _ y _ | .flotui _ y _ | .sflot _ y _
  | .sfloti _ y _ | .sflotu _ y _ | .sflotui _ y _ | .fsqrt _ y _ | .fint _ y _ => roundingFieldLegal y
  | .trap _ y z => trapServiceLegal y z
  | .get _ y z => decide (y = 0#8) && specialNumberLegal z
  | .put x y _ | .puti x y _ => decide (y = 0#8) && specialNumberLegal x && specialWritable x
  | .resume _ _ z => decide (z = 0#8)
  | .fcmp _ _ _ | .funop _ _ _ | .feql _ _ _ | .fadd _ _ _ | .fsub _ _ _ | .fmul _ _ _ | .fcmpe _ _ _
  | .fune _ _ _ | .feqle _ _ _ | .fdiv _ _ _ | .frem _ _ _ | .mul _ _ _ | .muli _ _ _ | .mulu _ _ _
  | .mului _ _ _ | .div _ _ _ | .divi _ _ _ | .divu _ _ _ | .divui _ _ _ | .add _ _ _ | .addi _ _ _
  | .addu _ _ _ | .addui _ _ _ | .sub _ _ _ | .subi _ _ _ | .subu _ _ _ | .subui _ _ _ | .twoAddu _ _ _
  | .twoAddui _ _ _ | .fourAddu _ _ _ | .fourAddui _ _ _ | .eightAddu _ _ _ | .eightAddui _ _ _
  | .sixteenAddu _ _ _ | .sixteenAddui _ _ _ | .cmp _ _ _ | .cmpi _ _ _ | .cmpu _ _ _ | .cmpui _ _ _
  | .neg _ _ _ | .negi _ _ _ | .negu _ _ _ | .negui _ _ _ | .sl _ _ _ | .sli _ _ _ | .slu _ _ _ | .slui _ _ _
  | .sr _ _ _ | .sri _ _ _ | .sru _ _ _ | .srui _ _ _ | .bn _ _ | .bnb _ _ | .bz _ _ | .bzb _ _ | .bp _ _
  | .bpb _ _ | .bod _ _ | .bodb _ _ | .bnn _ _ | .bnnb _ _ | .bnz _ _ | .bnzb _ _ | .bnp _ _ | .bnpb _ _
  | .bev _ _ | .bevb _ _ | .pbn _ _ | .pbnb _ _ | .pbz _ _ | .pbzb _ _ | .pbp _ _ | .pbpb _ _ | .pbod _ _
  | .pbodb _ _ | .pbnn _ _ | .pbnnb _ _ | .pbnz _ _ | .pbnzb _ _ | .pbnp _ _ | .pbnpb _ _ | .pbev _ _
  | .pbevb _ _ | .csn _ _ _ | .csni _ _ _ | .csz _ _ _ | .cszi _ _ _ | .csp _ _ _ | .cspi _ _ _ | .csod _ _ _
  | .csodi _ _ _ | .csnn _ _ _ | .csnni _ _ _ | .csnz _ _ _ | .csnzi _ _ _ | .csnp _ _ _ | .csnpi _ _ _
  | .csev _ _ _ | .csevi _ _ _ | .zsn _ _ _ | .zsni _ _ _ | .zsz _ _ _ | .zszi _ _ _ | .zsp _ _ _
  | .zspi _ _ _ | .zsod _ _ _ | .zsodi _ _ _ | .zsnn _ _ _ | .zsnni _ _ _ | .zsnz _ _ _ | .zsnzi _ _ _
  | .zsnp _ _ _ | .zsnpi _ _ _ | .zsev _ _ _ | .zsevi _ _ _ | .ldb _ _ _ | .ldbi _ _ _ | .ldbu _ _ _
  | .ldbui _ _ _ | .ldw _ _ _ | .ldwi _ _ _ | .ldwu _ _ _ | .ldwui _ _ _ | .ldt _ _ _ | .ldti _ _ _
  | .ldtu _ _ _ | .ldtui _ _ _ | .ldo _ _ _ | .ldoi _ _ _ | .ldou _ _ _ | .ldoui _ _ _ | .ldsf _ _ _
  | .ldsfi _ _ _ | .ldht _ _ _ | .ldhti _ _ _ | .cswap _ _ _ | .cswapi _ _ _ | .ldunc _ _ _ | .ldunci _ _ _
  | .ldvts  | .ldvtsi  | .preld  | .preldi  | .prego  | .pregoi  | .go _ _ _ | .goi _ _ _ | .stb _ _ _
  | .stbi _ _ _ | .stbu _ _ _ | .stbui _ _ _ | .stw _ _ _ | .stwi _ _ _ | .stwu _ _ _ | .stwui _ _ _
  | .stt _ _ _ | .stti _ _ _ | .sttu _ _ _ | .sttui _ _ _ | .sto _ _ _ | .stoi _ _ _ | .stou _ _ _
  | .stoui _ _ _ | .stsf _ _ _ | .stsfi _ _ _ | .stht _ _ _ | .sthti _ _ _ | .stco _ _ _ | .stcoi _ _ _
  | .stunc _ _ _ | .stunci _ _ _ | .syncd  | .syncdi  | .prest  | .presti  | .syncid  | .syncidi
  | .pushgo _ _ _ | .pushgoi _ _ _ | .or _ _ _ | .ori _ _ _ | .orn _ _ _ | .orni _ _ _ | .nor _ _ _
  | .nori _ _ _ | .xor _ _ _ | .xori _ _ _ | .and _ _ _ | .andi _ _ _ | .andn _ _ _ | .andni _ _ _
  | .nand _ _ _ | .nandi _ _ _ | .nxor _ _ _ | .nxori _ _ _ | .bdif _ _ _ | .bdifi _ _ _ | .wdif _ _ _
  | .wdifi _ _ _ | .tdif _ _ _ | .tdifi _ _ _ | .odif _ _ _ | .odifi _ _ _ | .mux _ _ _ | .muxi _ _ _
  | .sadd _ _ _ | .saddi _ _ _ | .mor _ _ _ | .mori _ _ _ | .mxor _ _ _ | .mxori _ _ _ | .seth _ _
  | .setmh _ _ | .setml _ _ | .setl _ _ | .inch _ _ | .incmh _ _ | .incml _ _ | .incl _ _ | .orh _ _
  | .ormh _ _ | .orml _ _ | .orl _ _ | .andnh _ _ | .andnmh _ _ | .andnml _ _ | .andnl _ _ | .jmp _ | .jmpb _
  | .pushj _ _ | .pushjb _ _ | .geta _ _ | .getab _ _ | .pop _ _ | .save _ _ _ | .unsave _ _ _ | .sync
  | .swym  | .trip _ _ _ => true

end Sys2Proof
end

