-- ==== Sys2Proof/Decode.lean ====
section
/-! DEFINITION. The decoder, total on 32-bit words (30_encoding.md R120, R121, R129, R135), the bytes it reads them from,
and the encoder beside it. -/

namespace Sys2Proof

/-! ### The fields of a word (R121) -/

/-- OP, bits 31:24. -/
def wordOp (w : Tetra) : Byte := w.extractLsb' 24 8

/-- X, bits 23:16. -/
def wordX (w : Tetra) : Byte := w.extractLsb' 16 8

/-- Y, bits 15:8. -/
def wordY (w : Tetra) : Byte := w.extractLsb' 8 8

/-- Z, bits 7:0. -/
def wordZ (w : Tetra) : Byte := w.extractLsb' 0 8

/-! ### The opcode map (R135)

`mapRow<h>` is the map's row with high hex digit h: `lo` is the low hex digit, `x y z` the other three bytes. `lo` is
below 16, so the last arm of a row is its column F. -/

/-- Row #0_ of the opcode map. -/
def mapRow0 (lo : Nat) (x y z : Byte) : Instr :=
  match lo with
  | 0 => .trap x y z
  | 1 => .fcmp x y z
  | 2 => .funop x y z
  | 3 => .feql x y z
  | 4 => .fadd x y z
  | 5 => .fix x y z
  | 6 => .fsub x y z
  | 7 => .fixu x y z
  | 8 => .flot x y z
  | 9 => .floti x y z
  | 10 => .flotu x y z
  | 11 => .flotui x y z
  | 12 => .sflot x y z
  | 13 => .sfloti x y z
  | 14 => .sflotu x y z
  | _ => .sflotui x y z

/-- Row #1_ of the opcode map. -/
def mapRow1 (lo : Nat) (x y z : Byte) : Instr :=
  match lo with
  | 0 => .fmul x y z
  | 1 => .fcmpe x y z
  | 2 => .fune x y z
  | 3 => .feqle x y z
  | 4 => .fdiv x y z
  | 5 => .fsqrt x y z
  | 6 => .frem x y z
  | 7 => .fint x y z
  | 8 => .mul x y z
  | 9 => .muli x y z
  | 10 => .mulu x y z
  | 11 => .mului x y z
  | 12 => .div x y z
  | 13 => .divi x y z
  | 14 => .divu x y z
  | _ => .divui x y z

/-- Row #2_ of the opcode map. -/
def mapRow2 (lo : Nat) (x y z : Byte) : Instr :=
  match lo with
  | 0 => .add x y z
  | 1 => .addi x y z
  | 2 => .addu x y z
  | 3 => .addui x y z
  | 4 => .sub x y z
  | 5 => .subi x y z
  | 6 => .subu x y z
  | 7 => .subui x y z
  | 8 => .twoAddu x y z
  | 9 => .twoAddui x y z
  | 10 => .fourAddu x y z
  | 11 => .fourAddui x y z
  | 12 => .eightAddu x y z
  | 13 => .eightAddui x y z
  | 14 => .sixteenAddu x y z
  | _ => .sixteenAddui x y z

/-- Row #3_ of the opcode map. -/
def mapRow3 (lo : Nat) (x y z : Byte) : Instr :=
  match lo with
  | 0 => .cmp x y z
  | 1 => .cmpi x y z
  | 2 => .cmpu x y z
  | 3 => .cmpui x y z
  | 4 => .neg x y z
  | 5 => .negi x y z
  | 6 => .negu x y z
  | 7 => .negui x y z
  | 8 => .sl x y z
  | 9 => .sli x y z
  | 10 => .slu x y z
  | 11 => .slui x y z
  | 12 => .sr x y z
  | 13 => .sri x y z
  | 14 => .sru x y z
  | _ => .srui x y z

/-- Row #4_ of the opcode map. -/
def mapRow4 (lo : Nat) (x y z : Byte) : Instr :=
  match lo with
  | 0 => .bn x (y ++ z)
  | 1 => .bnb x (y ++ z)
  | 2 => .bz x (y ++ z)
  | 3 => .bzb x (y ++ z)
  | 4 => .bp x (y ++ z)
  | 5 => .bpb x (y ++ z)
  | 6 => .bod x (y ++ z)
  | 7 => .bodb x (y ++ z)
  | 8 => .bnn x (y ++ z)
  | 9 => .bnnb x (y ++ z)
  | 10 => .bnz x (y ++ z)
  | 11 => .bnzb x (y ++ z)
  | 12 => .bnp x (y ++ z)
  | 13 => .bnpb x (y ++ z)
  | 14 => .bev x (y ++ z)
  | _ => .bevb x (y ++ z)

/-- Row #5_ of the opcode map. -/
def mapRow5 (lo : Nat) (x y z : Byte) : Instr :=
  match lo with
  | 0 => .pbn x (y ++ z)
  | 1 => .pbnb x (y ++ z)
  | 2 => .pbz x (y ++ z)
  | 3 => .pbzb x (y ++ z)
  | 4 => .pbp x (y ++ z)
  | 5 => .pbpb x (y ++ z)
  | 6 => .pbod x (y ++ z)
  | 7 => .pbodb x (y ++ z)
  | 8 => .pbnn x (y ++ z)
  | 9 => .pbnnb x (y ++ z)
  | 10 => .pbnz x (y ++ z)
  | 11 => .pbnzb x (y ++ z)
  | 12 => .pbnp x (y ++ z)
  | 13 => .pbnpb x (y ++ z)
  | 14 => .pbev x (y ++ z)
  | _ => .pbevb x (y ++ z)

/-- Row #6_ of the opcode map. -/
def mapRow6 (lo : Nat) (x y z : Byte) : Instr :=
  match lo with
  | 0 => .csn x y z
  | 1 => .csni x y z
  | 2 => .csz x y z
  | 3 => .cszi x y z
  | 4 => .csp x y z
  | 5 => .cspi x y z
  | 6 => .csod x y z
  | 7 => .csodi x y z
  | 8 => .csnn x y z
  | 9 => .csnni x y z
  | 10 => .csnz x y z
  | 11 => .csnzi x y z
  | 12 => .csnp x y z
  | 13 => .csnpi x y z
  | 14 => .csev x y z
  | _ => .csevi x y z

/-- Row #7_ of the opcode map. -/
def mapRow7 (lo : Nat) (x y z : Byte) : Instr :=
  match lo with
  | 0 => .zsn x y z
  | 1 => .zsni x y z
  | 2 => .zsz x y z
  | 3 => .zszi x y z
  | 4 => .zsp x y z
  | 5 => .zspi x y z
  | 6 => .zsod x y z
  | 7 => .zsodi x y z
  | 8 => .zsnn x y z
  | 9 => .zsnni x y z
  | 10 => .zsnz x y z
  | 11 => .zsnzi x y z
  | 12 => .zsnp x y z
  | 13 => .zsnpi x y z
  | 14 => .zsev x y z
  | _ => .zsevi x y z

/-- Row #8_ of the opcode map. -/
def mapRow8 (lo : Nat) (x y z : Byte) : Instr :=
  match lo with
  | 0 => .ldb x y z
  | 1 => .ldbi x y z
  | 2 => .ldbu x y z
  | 3 => .ldbui x y z
  | 4 => .ldw x y z
  | 5 => .ldwi x y z
  | 6 => .ldwu x y z
  | 7 => .ldwui x y z
  | 8 => .ldt x y z
  | 9 => .ldti x y z
  | 10 => .ldtu x y z
  | 11 => .ldtui x y z
  | 12 => .ldo x y z
  | 13 => .ldoi x y z
  | 14 => .ldou x y z
  | _ => .ldoui x y z

/-- Row #9_ of the opcode map. -/
def mapRow9 (lo : Nat) (x y z : Byte) : Instr :=
  match lo with
  | 0 => .ldsf x y z
  | 1 => .ldsfi x y z
  | 2 => .ldht x y z
  | 3 => .ldhti x y z
  | 4 => .cswap x y z
  | 5 => .cswapi x y z
  | 6 => .ldunc x y z
  | 7 => .ldunci x y z
  | 8 => .ldvts
  | 9 => .ldvtsi
  | 10 => .preld
  | 11 => .preldi
  | 12 => .prego
  | 13 => .pregoi
  | 14 => .go x y z
  | _ => .goi x y z

/-- Row #A_ of the opcode map. -/
def mapRowA (lo : Nat) (x y z : Byte) : Instr :=
  match lo with
  | 0 => .stb x y z
  | 1 => .stbi x y z
  | 2 => .stbu x y z
  | 3 => .stbui x y z
  | 4 => .stw x y z
  | 5 => .stwi x y z
  | 6 => .stwu x y z
  | 7 => .stwui x y z
  | 8 => .stt x y z
  | 9 => .stti x y z
  | 10 => .sttu x y z
  | 11 => .sttui x y z
  | 12 => .sto x y z
  | 13 => .stoi x y z
  | 14 => .stou x y z
  | _ => .stoui x y z

/-- Row #B_ of the opcode map. -/
def mapRowB (lo : Nat) (x y z : Byte) : Instr :=
  match lo with
  | 0 => .stsf x y z
  | 1 => .stsfi x y z
  | 2 => .stht x y z
  | 3 => .sthti x y z
  | 4 => .stco x y z
  | 5 => .stcoi x y z
  | 6 => .stunc x y z
  | 7 => .stunci x y z
  | 8 => .syncd
  | 9 => .syncdi
  | 10 => .prest
  | 11 => .presti
  | 12 => .syncid
  | 13 => .syncidi
  | 14 => .pushgo x y z
  | _ => .pushgoi x y z

/-- Row #C_ of the opcode map. -/
def mapRowC (lo : Nat) (x y z : Byte) : Instr :=
  match lo with
  | 0 => .or x y z
  | 1 => .ori x y z
  | 2 => .orn x y z
  | 3 => .orni x y z
  | 4 => .nor x y z
  | 5 => .nori x y z
  | 6 => .xor x y z
  | 7 => .xori x y z
  | 8 => .and x y z
  | 9 => .andi x y z
  | 10 => .andn x y z
  | 11 => .andni x y z
  | 12 => .nand x y z
  | 13 => .nandi x y z
  | 14 => .nxor x y z
  | _ => .nxori x y z

/-- Row #D_ of the opcode map. -/
def mapRowD (lo : Nat) (x y z : Byte) : Instr :=
  match lo with
  | 0 => .bdif x y z
  | 1 => .bdifi x y z
  | 2 => .wdif x y z
  | 3 => .wdifi x y z
  | 4 => .tdif x y z
  | 5 => .tdifi x y z
  | 6 => .odif x y z
  | 7 => .odifi x y z
  | 8 => .mux x y z
  | 9 => .muxi x y z
  | 10 => .sadd x y z
  | 11 => .saddi x y z
  | 12 => .mor x y z
  | 13 => .mori x y z
  | 14 => .mxor x y z
  | _ => .mxori x y z

/-- Row #E_ of the opcode map. -/
def mapRowE (lo : Nat) (x y z : Byte) : Instr :=
  match lo with
  | 0 => .seth x (y ++ z)
  | 1 => .setmh x (y ++ z)
  | 2 => .setml x (y ++ z)
  | 3 => .setl x (y ++ z)
  | 4 => .inch x (y ++ z)
  | 5 => .incmh x (y ++ z)
  | 6 => .incml x (y ++ z)
  | 7 => .incl x (y ++ z)
  | 8 => .orh x (y ++ z)
  | 9 => .ormh x (y ++ z)
  | 10 => .orml x (y ++ z)
  | 11 => .orl x (y ++ z)
  | 12 => .andnh x (y ++ z)
  | 13 => .andnmh x (y ++ z)
  | 14 => .andnml x (y ++ z)
  | _ => .andnl x (y ++ z)

/-- Row #F_ of the opcode map. -/
def mapRowF (lo : Nat) (x y z : Byte) : Instr :=
  match lo with
  | 0 => .jmp (x ++ y ++ z)
  | 1 => .jmpb (x ++ y ++ z)
  | 2 => .pushj x (y ++ z)
  | 3 => .pushjb x (y ++ z)
  | 4 => .geta x (y ++ z)
  | 5 => .getab x (y ++ z)
  | 6 => .put x y z
  | 7 => .puti x y z
  | 8 => .pop x (y ++ z)
  | 9 => .resume x y z
  | 10 => .save x y z
  | 11 => .unsave x y z
  | 12 => .sync
  | 13 => .swym
  | 14 => .get x y z
  | _ => .trip x y z

/-- The opcode map: the row OP[7:4], the column OP[3:0] (R135). The last arm is the row #F_. -/
def opcodeMap (op x y z : Byte) : Instr :=
  match op.toNat / 16 with
  | 0 => mapRow0 (op.toNat % 16) x y z
  | 1 => mapRow1 (op.toNat % 16) x y z
  | 2 => mapRow2 (op.toNat % 16) x y z
  | 3 => mapRow3 (op.toNat % 16) x y z
  | 4 => mapRow4 (op.toNat % 16) x y z
  | 5 => mapRow5 (op.toNat % 16) x y z
  | 6 => mapRow6 (op.toNat % 16) x y z
  | 7 => mapRow7 (op.toNat % 16) x y z
  | 8 => mapRow8 (op.toNat % 16) x y z
  | 9 => mapRow9 (op.toNat % 16) x y z
  | 10 => mapRowA (op.toNat % 16) x y z
  | 11 => mapRowB (op.toNat % 16) x y z
  | 12 => mapRowC (op.toNat % 16) x y z
  | 13 => mapRowD (op.toNat % 16) x y z
  | 14 => mapRowE (op.toNat % 16) x y z
  | _ => mapRowF (op.toNat % 16) x y z

/-- The instruction a word stands for: every word is one (R129). -/
def decode (w : Tetra) : Instr := opcodeMap (wordOp w) (wordX w) (wordY w) (wordZ w)

/-! ### Bytes -/

/-- Why a list of bytes is no instruction. -/
inductive DecodeError where
  /-- fewer than the four bytes of an instruction (R120); a fetch always has four, so no step raises it (safe) -/
  | tooFewBytes
  deriving DecidableEq, Repr

/-- The four bytes of a word as memory holds it, the most significant at the lowest address (20_memory.md R82, R90). -/
def bytesOfTetra (w : Tetra) : List Byte := [wordOp w, wordX w, wordY w, wordZ w]

/-- The instruction that the first four bytes stand for, and the bytes after it. -/
def decodeBytes (bs : List Byte) : Except DecodeError (Instr × List Byte) :=
  match bs with
  | op :: x :: y :: z :: rest => .ok (decode (op ++ x ++ y ++ z), rest)
  | _ => .error .tooFewBytes

/-- The host's question: the instruction the decoder reads from one whose bits are `w`, numbered as
spec/opcode_table.json numbers them (bit 0 the least significant bit of the instruction's one tetra). -/
def decodeTableWord (nbits w : Nat) : Option Instr :=
  if nbits ≤ 32 then
    match decodeBytes (bytesOfTetra (BitVec.ofNat 32 w)) with
    | .ok (i, _) => some i
    | .error _ => none
  else none

/-! ### The encoder -/

/-- OP of an instruction's row (R135). -/
def opcode (i : Instr) : Byte :=
  match i with
  | .trap _ _ _ => 0x00#8
  | .fcmp _ _ _ => 0x01#8
  | .funop _ _ _ => 0x02#8
  | .feql _ _ _ => 0x03#8
  | .fadd _ _ _ => 0x04#8
  | .fix _ _ _ => 0x05#8
  | .fsub _ _ _ => 0x06#8
  | .fixu _ _ _ => 0x07#8
  | .flot _ _ _ => 0x08#8
  | .floti _ _ _ => 0x09#8
  | .flotu _ _ _ => 0x0A#8
  | .flotui _ _ _ => 0x0B#8
  | .sflot _ _ _ => 0x0C#8
  | .sfloti _ _ _ => 0x0D#8
  | .sflotu _ _ _ => 0x0E#8
  | .sflotui _ _ _ => 0x0F#8
  | .fmul _ _ _ => 0x10#8
  | .fcmpe _ _ _ => 0x11#8
  | .fune _ _ _ => 0x12#8
  | .feqle _ _ _ => 0x13#8
  | .fdiv _ _ _ => 0x14#8
  | .fsqrt _ _ _ => 0x15#8
  | .frem _ _ _ => 0x16#8
  | .fint _ _ _ => 0x17#8
  | .mul _ _ _ => 0x18#8
  | .muli _ _ _ => 0x19#8
  | .mulu _ _ _ => 0x1A#8
  | .mului _ _ _ => 0x1B#8
  | .div _ _ _ => 0x1C#8
  | .divi _ _ _ => 0x1D#8
  | .divu _ _ _ => 0x1E#8
  | .divui _ _ _ => 0x1F#8
  | .add _ _ _ => 0x20#8
  | .addi _ _ _ => 0x21#8
  | .addu _ _ _ => 0x22#8
  | .addui _ _ _ => 0x23#8
  | .sub _ _ _ => 0x24#8
  | .subi _ _ _ => 0x25#8
  | .subu _ _ _ => 0x26#8
  | .subui _ _ _ => 0x27#8
  | .twoAddu _ _ _ => 0x28#8
  | .twoAddui _ _ _ => 0x29#8
  | .fourAddu _ _ _ => 0x2A#8
  | .fourAddui _ _ _ => 0x2B#8
  | .eightAddu _ _ _ => 0x2C#8
  | .eightAddui _ _ _ => 0x2D#8
  | .sixteenAddu _ _ _ => 0x2E#8
  | .sixteenAddui _ _ _ => 0x2F#8
  | .cmp _ _ _ => 0x30#8
  | .cmpi _ _ _ => 0x31#8
  | .cmpu _ _ _ => 0x32#8
  | .cmpui _ _ _ => 0x33#8
  | .neg _ _ _ => 0x34#8
  | .negi _ _ _ => 0x35#8
  | .negu _ _ _ => 0x36#8
  | .negui _ _ _ => 0x37#8
  | .sl _ _ _ => 0x38#8
  | .sli _ _ _ => 0x39#8
  | .slu _ _ _ => 0x3A#8
  | .slui _ _ _ => 0x3B#8
  | .sr _ _ _ => 0x3C#8
  | .sri _ _ _ => 0x3D#8
  | .sru _ _ _ => 0x3E#8
  | .srui _ _ _ => 0x3F#8
  | .bn _ _ => 0x40#8
  | .bnb _ _ => 0x41#8
  | .bz _ _ => 0x42#8
  | .bzb _ _ => 0x43#8
  | .bp _ _ => 0x44#8
  | .bpb _ _ => 0x45#8
  | .bod _ _ => 0x46#8
  | .bodb _ _ => 0x47#8
  | .bnn _ _ => 0x48#8
  | .bnnb _ _ => 0x49#8
  | .bnz _ _ => 0x4A#8
  | .bnzb _ _ => 0x4B#8
  | .bnp _ _ => 0x4C#8
  | .bnpb _ _ => 0x4D#8
  | .bev _ _ => 0x4E#8
  | .bevb _ _ => 0x4F#8
  | .pbn _ _ => 0x50#8
  | .pbnb _ _ => 0x51#8
  | .pbz _ _ => 0x52#8
  | .pbzb _ _ => 0x53#8
  | .pbp _ _ => 0x54#8
  | .pbpb _ _ => 0x55#8
  | .pbod _ _ => 0x56#8
  | .pbodb _ _ => 0x57#8
  | .pbnn _ _ => 0x58#8
  | .pbnnb _ _ => 0x59#8
  | .pbnz _ _ => 0x5A#8
  | .pbnzb _ _ => 0x5B#8
  | .pbnp _ _ => 0x5C#8
  | .pbnpb _ _ => 0x5D#8
  | .pbev _ _ => 0x5E#8
  | .pbevb _ _ => 0x5F#8
  | .csn _ _ _ => 0x60#8
  | .csni _ _ _ => 0x61#8
  | .csz _ _ _ => 0x62#8
  | .cszi _ _ _ => 0x63#8
  | .csp _ _ _ => 0x64#8
  | .cspi _ _ _ => 0x65#8
  | .csod _ _ _ => 0x66#8
  | .csodi _ _ _ => 0x67#8
  | .csnn _ _ _ => 0x68#8
  | .csnni _ _ _ => 0x69#8
  | .csnz _ _ _ => 0x6A#8
  | .csnzi _ _ _ => 0x6B#8
  | .csnp _ _ _ => 0x6C#8
  | .csnpi _ _ _ => 0x6D#8
  | .csev _ _ _ => 0x6E#8
  | .csevi _ _ _ => 0x6F#8
  | .zsn _ _ _ => 0x70#8
  | .zsni _ _ _ => 0x71#8
  | .zsz _ _ _ => 0x72#8
  | .zszi _ _ _ => 0x73#8
  | .zsp _ _ _ => 0x74#8
  | .zspi _ _ _ => 0x75#8
  | .zsod _ _ _ => 0x76#8
  | .zsodi _ _ _ => 0x77#8
  | .zsnn _ _ _ => 0x78#8
  | .zsnni _ _ _ => 0x79#8
  | .zsnz _ _ _ => 0x7A#8
  | .zsnzi _ _ _ => 0x7B#8
  | .zsnp _ _ _ => 0x7C#8
  | .zsnpi _ _ _ => 0x7D#8
  | .zsev _ _ _ => 0x7E#8
  | .zsevi _ _ _ => 0x7F#8
  | .ldb _ _ _ => 0x80#8
  | .ldbi _ _ _ => 0x81#8
  | .ldbu _ _ _ => 0x82#8
  | .ldbui _ _ _ => 0x83#8
  | .ldw _ _ _ => 0x84#8
  | .ldwi _ _ _ => 0x85#8
  | .ldwu _ _ _ => 0x86#8
  | .ldwui _ _ _ => 0x87#8
  | .ldt _ _ _ => 0x88#8
  | .ldti _ _ _ => 0x89#8
  | .ldtu _ _ _ => 0x8A#8
  | .ldtui _ _ _ => 0x8B#8
  | .ldo _ _ _ => 0x8C#8
  | .ldoi _ _ _ => 0x8D#8
  | .ldou _ _ _ => 0x8E#8
  | .ldoui _ _ _ => 0x8F#8
  | .ldsf _ _ _ => 0x90#8
  | .ldsfi _ _ _ => 0x91#8
  | .ldht _ _ _ => 0x92#8
  | .ldhti _ _ _ => 0x93#8
  | .cswap _ _ _ => 0x94#8
  | .cswapi _ _ _ => 0x95#8
  | .ldunc _ _ _ => 0x96#8
  | .ldunci _ _ _ => 0x97#8
  | .ldvts => 0x98#8
  | .ldvtsi => 0x99#8
  | .preld => 0x9A#8
  | .preldi => 0x9B#8
  | .prego => 0x9C#8
  | .pregoi => 0x9D#8
  | .go _ _ _ => 0x9E#8
  | .goi _ _ _ => 0x9F#8
  | .stb _ _ _ => 0xA0#8
  | .stbi _ _ _ => 0xA1#8
  | .stbu _ _ _ => 0xA2#8
  | .stbui _ _ _ => 0xA3#8
  | .stw _ _ _ => 0xA4#8
  | .stwi _ _ _ => 0xA5#8
  | .stwu _ _ _ => 0xA6#8
  | .stwui _ _ _ => 0xA7#8
  | .stt _ _ _ => 0xA8#8
  | .stti _ _ _ => 0xA9#8
  | .sttu _ _ _ => 0xAA#8
  | .sttui _ _ _ => 0xAB#8
  | .sto _ _ _ => 0xAC#8
  | .stoi _ _ _ => 0xAD#8
  | .stou _ _ _ => 0xAE#8
  | .stoui _ _ _ => 0xAF#8
  | .stsf _ _ _ => 0xB0#8
  | .stsfi _ _ _ => 0xB1#8
  | .stht _ _ _ => 0xB2#8
  | .sthti _ _ _ => 0xB3#8
  | .stco _ _ _ => 0xB4#8
  | .stcoi _ _ _ => 0xB5#8
  | .stunc _ _ _ => 0xB6#8
  | .stunci _ _ _ => 0xB7#8
  | .syncd => 0xB8#8
  | .syncdi => 0xB9#8
  | .prest => 0xBA#8
  | .presti => 0xBB#8
  | .syncid => 0xBC#8
  | .syncidi => 0xBD#8
  | .pushgo _ _ _ => 0xBE#8
  | .pushgoi _ _ _ => 0xBF#8
  | .or _ _ _ => 0xC0#8
  | .ori _ _ _ => 0xC1#8
  | .orn _ _ _ => 0xC2#8
  | .orni _ _ _ => 0xC3#8
  | .nor _ _ _ => 0xC4#8
  | .nori _ _ _ => 0xC5#8
  | .xor _ _ _ => 0xC6#8
  | .xori _ _ _ => 0xC7#8
  | .and _ _ _ => 0xC8#8
  | .andi _ _ _ => 0xC9#8
  | .andn _ _ _ => 0xCA#8
  | .andni _ _ _ => 0xCB#8
  | .nand _ _ _ => 0xCC#8
  | .nandi _ _ _ => 0xCD#8
  | .nxor _ _ _ => 0xCE#8
  | .nxori _ _ _ => 0xCF#8
  | .bdif _ _ _ => 0xD0#8
  | .bdifi _ _ _ => 0xD1#8
  | .wdif _ _ _ => 0xD2#8
  | .wdifi _ _ _ => 0xD3#8
  | .tdif _ _ _ => 0xD4#8
  | .tdifi _ _ _ => 0xD5#8
  | .odif _ _ _ => 0xD6#8
  | .odifi _ _ _ => 0xD7#8
  | .mux _ _ _ => 0xD8#8
  | .muxi _ _ _ => 0xD9#8
  | .sadd _ _ _ => 0xDA#8
  | .saddi _ _ _ => 0xDB#8
  | .mor _ _ _ => 0xDC#8
  | .mori _ _ _ => 0xDD#8
  | .mxor _ _ _ => 0xDE#8
  | .mxori _ _ _ => 0xDF#8
  | .seth _ _ => 0xE0#8
  | .setmh _ _ => 0xE1#8
  | .setml _ _ => 0xE2#8
  | .setl _ _ => 0xE3#8
  | .inch _ _ => 0xE4#8
  | .incmh _ _ => 0xE5#8
  | .incml _ _ => 0xE6#8
  | .incl _ _ => 0xE7#8
  | .orh _ _ => 0xE8#8
  | .ormh _ _ => 0xE9#8
  | .orml _ _ => 0xEA#8
  | .orl _ _ => 0xEB#8
  | .andnh _ _ => 0xEC#8
  | .andnmh _ _ => 0xED#8
  | .andnml _ _ => 0xEE#8
  | .andnl _ _ => 0xEF#8
  | .jmp _ => 0xF0#8
  | .jmpb _ => 0xF1#8
  | .pushj _ _ => 0xF2#8
  | .pushjb _ _ => 0xF3#8
  | .geta _ _ => 0xF4#8
  | .getab _ _ => 0xF5#8
  | .put _ _ _ => 0xF6#8
  | .puti _ _ _ => 0xF7#8
  | .pop _ _ => 0xF8#8
  | .resume _ _ _ => 0xF9#8
  | .save _ _ _ => 0xFA#8
  | .unsave _ _ _ => 0xFB#8
  | .sync => 0xFC#8
  | .swym => 0xFD#8
  | .get _ _ _ => 0xFE#8
  | .trip _ _ _ => 0xFF#8

/-- The 24 bits below OP (R121, R122). The hints, which ignore them (R131), are written with zeros. -/
def operandBits (i : Instr) : BitVec 24 :=
  match i with
  | .ldvts | .ldvtsi | .preld | .preldi | .prego | .pregoi | .syncd | .syncdi | .prest | .presti
  | .syncid | .syncidi | .sync | .swym => 0#24
  | .jmp xyz | .jmpb xyz => xyz
  | .bn x yz | .bnb x yz | .bz x yz | .bzb x yz | .bp x yz | .bpb x yz | .bod x yz | .bodb x yz | .bnn x yz
  | .bnnb x yz | .bnz x yz | .bnzb x yz | .bnp x yz | .bnpb x yz | .bev x yz | .bevb x yz | .pbn x yz
  | .pbnb x yz | .pbz x yz | .pbzb x yz | .pbp x yz | .pbpb x yz | .pbod x yz | .pbodb x yz | .pbnn x yz
  | .pbnnb x yz | .pbnz x yz | .pbnzb x yz | .pbnp x yz | .pbnpb x yz | .pbev x yz | .pbevb x yz | .seth x yz
  | .setmh x yz | .setml x yz | .setl x yz | .inch x yz | .incmh x yz | .incml x yz | .incl x yz | .orh x yz
  | .ormh x yz | .orml x yz | .orl x yz | .andnh x yz | .andnmh x yz | .andnml x yz | .andnl x yz
  | .pushj x yz | .pushjb x yz | .geta x yz | .getab x yz | .pop x yz => x ++ yz
  | .trap x y z | .fcmp x y z | .funop x y z | .feql x y z | .fadd x y z | .fix x y z | .fsub x y z
  | .fixu x y z | .flot x y z | .floti x y z | .flotu x y z | .flotui x y z | .sflot x y z | .sfloti x y z
  | .sflotu x y z | .sflotui x y z | .fmul x y z | .fcmpe x y z | .fune x y z | .feqle x y z | .fdiv x y z
  | .fsqrt x y z | .frem x y z | .fint x y z | .mul x y z | .muli x y z | .mulu x y z | .mului x y z
  | .div x y z | .divi x y z | .divu x y z | .divui x y z | .add x y z | .addi x y z | .addu x y z
  | .addui x y z | .sub x y z | .subi x y z | .subu x y z | .subui x y z | .twoAddu x y z | .twoAddui x y z
  | .fourAddu x y z | .fourAddui x y z | .eightAddu x y z | .eightAddui x y z | .sixteenAddu x y z
  | .sixteenAddui x y z | .cmp x y z | .cmpi x y z | .cmpu x y z | .cmpui x y z | .neg x y z | .negi x y z
  | .negu x y z | .negui x y z | .sl x y z | .sli x y z | .slu x y z | .slui x y z | .sr x y z | .sri x y z
  | .sru x y z | .srui x y z | .csn x y z | .csni x y z | .csz x y z | .cszi x y z | .csp x y z | .cspi x y z
  | .csod x y z | .csodi x y z | .csnn x y z | .csnni x y z | .csnz x y z | .csnzi x y z | .csnp x y z
  | .csnpi x y z | .csev x y z | .csevi x y z | .zsn x y z | .zsni x y z | .zsz x y z | .zszi x y z
  | .zsp x y z | .zspi x y z | .zsod x y z | .zsodi x y z | .zsnn x y z | .zsnni x y z | .zsnz x y z
  | .zsnzi x y z | .zsnp x y z | .zsnpi x y z | .zsev x y z | .zsevi x y z | .ldb x y z | .ldbi x y z
  | .ldbu x y z | .ldbui x y z | .ldw x y z | .ldwi x y z | .ldwu x y z | .ldwui x y z | .ldt x y z
  | .ldti x y z | .ldtu x y z | .ldtui x y z | .ldo x y z | .ldoi x y z | .ldou x y z | .ldoui x y z
  | .ldsf x y z | .ldsfi x y z | .ldht x y z | .ldhti x y z | .cswap x y z | .cswapi x y z | .ldunc x y z
  | .ldunci x y z | .go x y z | .goi x y z | .stb x y z | .stbi x y z | .stbu x y z | .stbui x y z
  | .stw x y z | .stwi x y z | .stwu x y z | .stwui x y z | .stt x y z | .stti x y z | .sttu x y z
  | .sttui x y z | .sto x y z | .stoi x y z | .stou x y z | .stoui x y z | .stsf x y z | .stsfi x y z
  | .stht x y z | .sthti x y z | .stco x y z | .stcoi x y z | .stunc x y z | .stunci x y z | .pushgo x y z
  | .pushgoi x y z | .or x y z | .ori x y z | .orn x y z | .orni x y z | .nor x y z | .nori x y z
  | .xor x y z | .xori x y z | .and x y z | .andi x y z | .andn x y z | .andni x y z | .nand x y z
  | .nandi x y z | .nxor x y z | .nxori x y z | .bdif x y z | .bdifi x y z | .wdif x y z | .wdifi x y z
  | .tdif x y z | .tdifi x y z | .odif x y z | .odifi x y z | .mux x y z | .muxi x y z | .sadd x y z
  | .saddi x y z | .mor x y z | .mori x y z | .mxor x y z | .mxori x y z | .put x y z | .puti x y z
  | .resume x y z | .save x y z | .unsave x y z | .get x y z | .trip x y z => x ++ y ++ z

/-- The word of an instruction. -/
def encode (i : Instr) : Tetra := opcode i ++ operandBits i

end Sys2Proof
end

