-- ==== Sys2Proof/Machine/State.lean ====
section
/-! DEFINITION. The state of the block as plain data (10_state.md R20), why a step stops, the state after reset
(70_reset_and_hazards.md R540-R547), and one update per field. -/

namespace Sys2Proof.Machine

/-- The reasons of `Faulted(reason)` (60_exceptions.md R505), each raised only where its rule says. Raising one is a
next state (R506), not a stop of the model. -/
inductive FaultReason where
  | illegalInstruction
  | unimplemented
  | privileged
  | unhandledTrap
  | badHandle
  | stackUnderflow
  | registerStackOverflow
  deriving DecidableEq, Repr

/-- The executor state (10_state.md R21). -/
inductive Status where
  | running
  | halted (code : Byte)
  | faulted (reason : FaultReason)
  deriving DecidableEq, Repr

/-- The special registers that hold a value of their own, 64 bits each (10_state.md R40). Not here, because they hold
none: rG and rL (the lengths of `State.glob` and `State.frame`), rO and rS (derived from `State.stack`, R32), rN
(`Config.rnValue`, R45), and rC, rI, rU (not maintained, each read is a draw, R46). -/
structure Specials where
  rB : Word
  rD : Word
  rE : Word
  rH : Word
  rJ : Word
  rM : Word
  rR : Word
  rBB : Word
  rT : Word
  rTT : Word
  rK : Word
  rQ : Word
  rV : Word
  /-- Bits 17:16 the rounding mode, 15:8 the enable bits, 7:0 the event bits; bits 63:18 are 0 (R41-R43). -/
  rA : Word
  rF : Word
  rP : Word
  rW : Word
  rX : Word
  rY : Word
  rZ : Word
  rWW : Word
  rXX : Word
  rYY : Word
  rZZ : Word
  deriving DecidableEq, Repr

/-- Every special register of `Specials` at its reset value, 0 (R40, R545). -/
def Specials.reset : Specials :=
  ⟨0, 0, 0, 0, 0, 0, 0, 0, 0, 0, 0, 0, 0, 0, 0, 0, 0, 0, 0, 0, 0, 0, 0, 0⟩

/-- The output streams `out[1]` and `out[2]`, the first byte written first (47_system.md R491). -/
structure Outputs where
  stdOut : List Byte
  stdErr : List Byte
  deriving DecidableEq, Repr

/-- The memory: translated addresses (63 bits, 20_memory.md R85) with their bytes. An address that is not listed reads
0 (R80), so the canonical form (`Memory.wf`) lists no zero byte. -/
abbrev Memory := List Host.Cell

/-- The whole state of the block (R20), with the model's own `params` and `draws`. -/
structure State where
  /-- The parameters of 00_scope.md R6 (assumption 1); no step changes them. -/
  params : Params
  /-- The executor state (R21). -/
  status : Status
  /-- The program counter, untranslated (R27, R29). -/
  pc : Word
  /-- The local registers `frame[0..L-1]`; L, the value of rL, is its length (R20, R23; assumption 4). -/
  frame : List Word
  /-- The global registers `glob[G..255]`, `$G` first; G, the value of rG, is 256 less its length (R20, R23;
  assumption 4). -/
  glob : List Word
  /-- The register stack S, bottom first (R30). -/
  stack : List Word
  /-- The special registers that hold a value of their own (R40). -/
  sr : Specials
  /-- The memory (20_memory.md R80). -/
  mem : Memory
  /-- The output streams (47_system.md R491). -/
  out : Outputs
  /-- How many draws have been taken: the model's own counter, which makes each draw a fresh one (assumption 3). -/
  draws : Nat
  deriving DecidableEq, Repr

/-- What stops the model: a step from a terminal status, which "is not defined" (60_exceptions.md R508). -/
inductive Fault where
  /-- `step` raises it in the status `Halted(code)` (R21, R508). Safe: the run has ended, and no instruction follows. -/
  | afterHalt (code : Byte)
  /-- `step` raises it in the status `Faulted(reason)` (R21, R508). Safe: the run has ended, and no instruction
  follows. -/
  | afterFault (reason : FaultReason)
  deriving DecidableEq, Repr

/-- Why an instruction has no meaning in the model. -/
inductive Refusal where
  /-- `exec` raises it for an instruction that has no meaning yet; no arm does. Safe: nothing can be proved of what
  such an instruction does. -/
  | notModelled (mnemonic : String)
  deriving DecidableEq, Repr

/-- What a step or a meaning answers. -/
abbrev Result := Host.Outcome State Fault Refusal

/-- The state at the start of a run of the empty image with the default parameters (70_reset_and_hazards.md
R540-R547): `pc` is the default `ENTRY`, L is 0, G is 255 with `$255` = 0, S is empty, every stored special register is
0, no byte of memory is listed, nothing has been output. `Machine.load` gives the same for other images. The draw
counter starts at 0 (assumption 3). -/
def State.reset : State :=
  ⟨{}, .running, Config.defaultEntry, [], [0], [], Specials.reset, [], ⟨[], []⟩, 0⟩

/-! ### One update per field -/

def State.setStatus (v : Status) (s : State) : State := { s with status := v }

def State.setPc (v : Word) (s : State) : State := { s with pc := v }

def State.setFrame (v : List Word) (s : State) : State := { s with frame := v }

def State.setGlob (v : List Word) (s : State) : State := { s with glob := v }

def State.setStack (v : List Word) (s : State) : State := { s with stack := v }

def State.setSr (v : Specials) (s : State) : State := { s with sr := v }

def State.setMem (v : Memory) (s : State) : State := { s with mem := v }

def State.setOut (v : Outputs) (s : State) : State := { s with out := v }

def State.setDraws (v : Nat) (s : State) : State := { s with draws := v }

end Sys2Proof.Machine
end

