-- ==== Sys2Proof/Machine/Operands.lean ====
section
/-! DEFINITION. Every operand form of the spec: registers, immediates, offsets, conditions, rounding-mode fields and
special-register numbers (10_state.md R23, R24; 30_encoding.md R122-R128; 44_conditional_set.md R360). -/

namespace Sys2Proof.Machine

/-! ### General registers -/

/-- `L`, the value of rL: the number of local registers (10_state.md R23). -/
def State.L (s : State) : Nat := s.frame.length

/-- `G`, the value of rG: the number of the first global register (R23). -/
def State.G (s : State) : Nat := 256 - s.glob.length

/-- `x[k]` (R24): a global register, a local one, or 0 for a marginal one. Reading changes nothing. -/
def State.reg (k : Byte) (s : State) : Word :=
  if s.G ≤ k.toNat then s.glob.getD (k.toNat - s.G) 0
  else s.frame.getD k.toNat 0

/-- `$k` is marginal, `L <= k < G` (R23). -/
def State.marginal (k : Byte) (s : State) : Bool := decide (s.L ≤ k.toNat ∧ k.toNat < s.G)

/-! ### Immediates and offsets -/

/-- `zext_8` of the field Y or Z as an operand (30_encoding.md R123). -/
def zext8 (b : Byte) : Word := b.setWidth 64

/-- The wyde immediate `zext_16(YZ)` in the lane at `shift` (R126). -/
def wydeAt (yz : Wyde) (shift : Nat) : Word := (yz.setWidth 64) <<< shift

/-- The 16-bit offset of an even (forward) opcode: `u(YZ)` (R124). -/
def forward16 (yz : Wyde) : Int := yz.toNat

/-- The 16-bit offset of an odd (backward) opcode: `u(YZ) - 65536` (R124). -/
def backward16 (yz : Wyde) : Int := (yz.toNat : Int) - 65536

/-- The 24-bit offset of `JMP`: `u(XYZ)` (R125). -/
def forward24 (xyz : BitVec 24) : Int := xyz.toNat

/-- The 24-bit offset of `JMPB`: `u(XYZ) - 16777216` (R125). -/
def backward24 (xyz : BitVec 24) : Int := (xyz.toNat : Int) - 16777216

/-- A relative target `wrap64(@ + 4*k)` (R124, R125). -/
def relTarget (pc : Word) (k : Int) : Word := wrap64 ((pc.toNat : Int) + 4 * k)

/-- The low two bits of a computed target cleared (45_control_transfer.md R405). -/
def alignTarget (a : Word) : Word := a &&& ~~~3#64

/-! ### Conditions (44_conditional_set.md R360) -/

/-- `cond(v)`. -/
def condHolds (c : Cond) (v : Word) : Bool :=
  match c with
  | .n => decide (v.toInt < 0)
  | .z => decide (v.toNat = 0)
  | .p => decide (0 < v.toInt)
  | .od => v.getLsbD 0
  | .nn => decide (0 ≤ v.toInt)
  | .nz => decide (v.toNat ≠ 0)
  | .np => decide (v.toInt ≤ 0)
  | .ev => !v.getLsbD 0

/-! ### Rounding modes -/

/-- `mode_rA`: the mode in rA bits 17:16 (10_state.md R42). -/
def State.modeRA (s : State) : Rounding :=
  match (s.sr.rA.extractLsb' 16 2).toNat with
  | 0 => .near
  | 1 => .off
  | 2 => .up
  | _ => .down

/-- `mode_Y`: the mode that the field Y of formats RMR and RMI selects; none for Y >= 5, which is illegal
(30_encoding.md R127). -/
def State.modeY (y : Byte) (s : State) : Option Rounding :=
  match y.toNat with
  | 0 => some s.modeRA
  | 1 => some .off
  | 2 => some .up
  | 3 => some .down
  | 4 => some .near
  | _ => none

/-! ### Special-register numbers -/

/-- The special register a number names, by the numbers of 10_state.md R40; none for 32 and above (30_encoding.md
R128). -/
def specialOf (n : Byte) : Option SpecialReg :=
  match n.toNat with
  | 0 => some .rB
  | 1 => some .rD
  | 2 => some .rE
  | 3 => some .rH
  | 4 => some .rJ
  | 5 => some .rM
  | 6 => some .rR
  | 7 => some .rBB
  | 8 => some .rC
  | 9 => some .rN
  | 10 => some .rO
  | 11 => some .rS
  | 12 => some .rI
  | 13 => some .rT
  | 14 => some .rTT
  | 15 => some .rK
  | 16 => some .rQ
  | 17 => some .rU
  | 18 => some .rV
  | 19 => some .rG
  | 20 => some .rL
  | 21 => some .rA
  | 22 => some .rF
  | 23 => some .rP
  | 24 => some .rW
  | 25 => some .rX
  | 26 => some .rY
  | 27 => some .rZ
  | 28 => some .rWW
  | 29 => some .rXX
  | 30 => some .rYY
  | 31 => some .rZZ
  | _ => none

/-- The number of a special register (R40, 30_encoding.md R146). -/
def specialNumber (r : SpecialReg) : Nat :=
  match r with
  | .rB => 0
  | .rD => 1
  | .rE => 2
  | .rH => 3
  | .rJ => 4
  | .rM => 5
  | .rR => 6
  | .rBB => 7
  | .rC => 8
  | .rN => 9
  | .rO => 10
  | .rS => 11
  | .rI => 12
  | .rT => 13
  | .rTT => 14
  | .rK => 15
  | .rQ => 16
  | .rU => 17
  | .rV => 18
  | .rG => 19
  | .rL => 20
  | .rA => 21
  | .rF => 22
  | .rP => 23
  | .rW => 24
  | .rX => 25
  | .rY => 26
  | .rZ => 27
  | .rWW => 28
  | .rXX => 29
  | .rYY => 30
  | .rZZ => 31

end Sys2Proof.Machine
end

