-- ==== Sys2Proof/Machine/Flags.lean ====
section
/-! DEFINITION. The event bits of rA and every integer condition that sets one (10_state.md R43; 40_integer_arith.md
R218; 41_logical_bitwise.md R268; 43_load_store.md R333, R335, R337). The floating-point events are computed beside
their results in Machine/Float.lean. -/

namespace Sys2Proof.Machine

/-- D, integer divide check (R43). -/
def eventD : Byte := 0x80#8
/-- V, integer overflow (R43). -/
def eventV : Byte := 0x40#8
/-- W, float-to-fix overflow (R43). -/
def eventW : Byte := 0x20#8
/-- I, invalid operation, and the fault bit of 60_exceptions.md R506 (R43). -/
def eventI : Byte := 0x10#8
/-- O, floating overflow (R43). -/
def eventO : Byte := 0x08#8
/-- U, floating underflow (R43). -/
def eventU : Byte := 0x04#8
/-- Z, floating division by zero (R43). -/
def eventZ : Byte := 0x02#8
/-- X, floating inexact (R43). -/
def eventX : Byte := 0x01#8

/-- V when the exact result `r` does not fit a signed 64-bit word (40_integer_arith.md R200). -/
def overflowEvent (r : Int) : Byte := if fitsSigned 64 r then 0 else eventV

/-- V when the exact value `s(y) * 2^u(z)` of a signed left shift does not fit; for 64 places and more, when y is not 0
(41_logical_bitwise.md R268). -/
def shiftOverflowEvent (y z : Word) : Byte :=
  if 64 ≤ z.toNat then (if y = 0 then 0 else eventV)
  else overflowEvent (y.toInt * ((2 ^ z.toNat : Nat) : Int))

/-- V when the stored register does not fit the `n` bytes as a signed number (43_load_store.md R333, R335, R337). -/
def storeOverflowEvent (n : Nat) (v : Word) : Byte := if fitsSigned (8 * n) v.toInt then 0 else eventV

end Sys2Proof.Machine
end

