-- ==== Sys2Proof/Machine/Ops.lean ====
section
/-! DEFINITION. The operations every meaning is built from: memory (20_memory.md), registers (10_state.md), events and
faults (60_exceptions.md R501, R506), the trip and its return (47_system.md R494, R495), the register stack
(45_control_transfer.md R400, R403), `SAVE` and `UNSAVE` (47_system.md R481, R482), and instruction fetch. -/

namespace Sys2Proof.Machine

/-! ### Bytes of memory -/

/-- The byte at a translated address; an unlisted one is 0 (20_memory.md R80). -/
def Memory.read : Memory → Nat → Byte
  | [], _ => 0
  | (c, b) :: m, a => if a = c then b else Memory.read m a

/-- One byte written, keeping the canonical form: a byte 0 is not listed. -/
def Memory.write : Memory → Nat → Byte → Memory
  | [], a, b => if b = 0 then [] else [(a, b)]
  | (c, d) :: m, a, b =>
    if a < c then (if b = 0 then (c, d) :: m else (a, b) :: (c, d) :: m)
    else if a = c then (if b = 0 then m else (a, b) :: m)
    else (c, d) :: Memory.write m a b

/-- The canonical form: 63-bit addresses (20_memory.md R80, R85) strictly rising, and no byte that is 0. -/
abbrev Memory.wf (m : Memory) : Prop :=
  m.Pairwise (fun c d => c.1 < d.1) ∧ ∀ c ∈ m, c.1 < 2 ^ 63 ∧ c.2 ≠ 0

/-- The `n` bytes from `a` upward as one number, the most significant first (R82). -/
def Memory.readN (m : Memory) (a : Nat) : Nat → Nat
  | 0 => 0
  | n + 1 => m.readN a n * 256 + (m.read (a + n)).toNat

/-- The low `n` bytes of `v` written from `a` upward, the most significant first (R82, R87). -/
def Memory.writeN (m : Memory) (a : Nat) : Nat → Nat → Memory
  | 0, _ => m
  | n + 1, v => (m.writeN a n (v / 256)).write (a + n) (BitVec.ofNat 8 v)

/-! ### Translated and aligned accesses -/

/-- The address an access of `n` bytes (1, 2, 4 or 8) at the virtual address `a` uses: the top bit zeroed, then aligned
down, `T(a) AND NOT (n - 1)` (20_memory.md R85, R86). -/
def effective (n : Nat) (a : Word) : Nat :=
  ((a &&& 0x7FFFFFFFFFFFFFFF#64) &&& ~~~(BitVec.ofNat 64 (n - 1))).toNat

/-- `MemRead(a, n)` (R86). -/
def Memory.load (m : Memory) (n : Nat) (a : Word) : Nat := m.readN (effective n a) n

/-- `MemWrite(a, n, v)` (R87). -/
def Memory.store (m : Memory) (n : Nat) (a : Word) (v : Word) : Memory := m.writeN (effective n a) n v.toNat

/-- `zext(MemRead(a, n))` as a 64-bit value (R8). -/
def State.loadUnsigned (n : Nat) (a : Word) (s : State) : Word := BitVec.ofNat 64 (s.mem.load n a)

/-- `sext(MemRead(a, n))` as a 64-bit value (R8). -/
def State.loadSigned (n : Nat) (a : Word) (s : State) : Word :=
  (BitVec.ofNat (8 * n) (s.mem.load n a)).signExtend 64

/-- Octas written one after the other from `a` upward, each address wrapping modulo 2^64 (47_system.md R481). -/
def Memory.storeOctas (m : Memory) (a : Word) : List Word → Memory
  | [] => m
  | v :: vs => (m.store 8 a v).storeOctas (a + 8) vs

/-- `k` octas read one after the other from `a` upward (47_system.md R482). -/
def Memory.loadOctas (m : Memory) (a : Word) : Nat → List Word
  | 0 => []
  | k + 1 => BitVec.ofNat 64 (m.load 8 a) :: m.loadOctas (a + 8) k

/-- The bytes from the virtual address `a` up to the first 0, which is not among them (47_system.md R492). At most
`fuel` bytes are read: `State.fputsBytes` gives one more than memory lists, so the first 0 is reached
(assumption 8). -/
def Memory.readString (m : Memory) (a : Word) : Nat → List Byte
  | 0 => []
  | fuel + 1 =>
    let b := m.read (effective 1 a)
    if b = 0 then [] else b :: m.readString (a + 1) fuel

/-- The bytes that `Fputs` writes from the address in `$255` (47_system.md R492). -/
def State.fputsBytes (s : State) : List Byte := s.mem.readString (s.reg 255) (s.mem.length + 1)

/-! ### Events, faults and the advance of `pc` -/

/-- `event(bits)` (60_exceptions.md R501). -/
def State.event (ev : Byte) (s : State) : State := s.setSr { s.sr with rA := s.sr.rA ||| ev.setWidth 64 }

/-- `pc <- wrap64(@ + 4)` (10_state.md R27). -/
def State.advance (s : State) : State := s.setPc (s.pc + 4)

/-- The reasons whose fault sets the I bit of rA (60_exceptions.md R506). -/
def FaultReason.setsI (r : FaultReason) : Bool :=
  match r with
  | .illegalInstruction | .unimplemented | .privileged => true
  | .unhandledTrap | .badHandle | .stackUnderflow | .registerStackOverflow => false

/-- `raise Fault(reason)`: the status and, for three reasons, the I bit; nothing else (R506, R507). -/
def State.raise (r : FaultReason) (s : State) : State :=
  (if r.setsI then s.event eventI else s).setStatus (.faulted r)

/-- A meaning that raises a fault. -/
def State.fails (r : FaultReason) (s : State) : Result := .next (s.raise r)

/-! ### Register writes -/

/-- `|S| + l` is within `RING_LIMIT` (10_state.md R33). -/
def State.ringAllows (depth locals : Nat) (s : State) : Bool :=
  match s.params.ringLimit with
  | none => true
  | some n => decide (depth + locals ≤ n)

/-- Writing `$k` does not exceed `RING_LIMIT`: only a marginal register makes L grow, to k + 1 (R25). -/
def State.roomFor (k : Byte) (s : State) : Bool :=
  !s.marginal k || s.ringAllows s.stack.length (k.toNat + 1)

/-- `x[k] <- v` without the check of `RING_LIMIT` (R25): a marginal register and those below it become local, the
others among them holding 0. -/
def State.setReg (k : Byte) (v : Word) (s : State) : State :=
  if s.G ≤ k.toNat then s.setGlob (s.glob.set (k.toNat - s.G) v)
  else if k.toNat < s.L then s.setFrame (s.frame.set k.toNat v)
  else s.setFrame (s.frame ++ List.replicate (k.toNat - s.L) 0 ++ [v])

/-- The instruction writes `$k` and leaves the state `t`, or `RING_LIMIT` forbids the write and nothing of `t` stands
(R25, 60_exceptions.md R507). -/
def State.guardWrite (k : Byte) (s t : State) : Result :=
  if s.roomFor k then .next t else s.fails .registerStackOverflow

/-- The instruction whose whole effect is `x[k] <- v`, `event(ev)` and the advance of `pc` (R26, R503). -/
def State.writeX (k : Byte) (v : Word) (ev : Byte) (s : State) : Result :=
  s.guardWrite k (((s.setReg k v).event ev).advance)

/-- The instruction whose whole effect is `MemWrite(a, n, v)`, `event(ev)` and the advance of `pc`
(43_load_store.md R320). -/
def State.storeX (n : Nat) (a v : Word) (ev : Byte) (s : State) : Result :=
  .next (((s.setMem (s.mem.store n a v)).event ev).advance)

/-! ### Special registers -/

/-- The value of a special register (47_system.md R476). A counter is a draw (10_state.md R46). -/
def State.special (r : SpecialReg) (s : State) : Word :=
  match r with
  | .rB => s.sr.rB
  | .rD => s.sr.rD
  | .rE => s.sr.rE
  | .rH => s.sr.rH
  | .rJ => s.sr.rJ
  | .rM => s.sr.rM
  | .rR => s.sr.rR
  | .rBB => s.sr.rBB
  | .rC | .rI | .rU => Config.counterRead s.draws
  | .rN => Config.rnValue
  | .rO => Config.stackBase + BitVec.ofNat 64 (8 * s.stack.length)
  | .rS => Config.stackBase
  | .rT => s.sr.rT
  | .rTT => s.sr.rTT
  | .rK => s.sr.rK
  | .rQ => s.sr.rQ
  | .rV => s.sr.rV
  | .rG => BitVec.ofNat 64 s.G
  | .rL => BitVec.ofNat 64 s.L
  | .rA => s.sr.rA
  | .rF => s.sr.rF
  | .rP => s.sr.rP
  | .rW => s.sr.rW
  | .rX => s.sr.rX
  | .rY => s.sr.rY
  | .rZ => s.sr.rZ
  | .rWW => s.sr.rWW
  | .rXX => s.sr.rXX
  | .rYY => s.sr.rYY
  | .rZZ => s.sr.rZZ

/-- How many draws a read of a special register takes. -/
def drawsTaken (r : SpecialReg) : Nat :=
  match r with
  | .rC | .rI | .rU => 1
  | .rB | .rD | .rE | .rH | .rJ | .rM | .rR | .rBB | .rN | .rO | .rS | .rT | .rTT | .rK | .rQ | .rV | .rG | .rL
  | .rA | .rF | .rP | .rW | .rX | .rY | .rZ | .rWW | .rXX | .rYY | .rZZ => 0

/-- `G <- g` with the registers that become global holding 0 and those that cease to be dropped (47_system.md R479). -/
def State.setG (g : Nat) (s : State) : State :=
  s.setGlob (if g < s.G then List.replicate (s.G - g) 0 ++ s.glob else s.glob.drop (g - s.G))

/-- `PUT rA` (R478). -/
def State.putRA (v : Word) (s : State) : Result :=
  if v.toNat < 2 ^ 18 then .next (s.setSr { s.sr with rA := v }).advance else s.fails .illegalInstruction

/-- `PUT rG` (R479). -/
def State.putRG (v : Word) (s : State) : Result :=
  if v.toNat < 32 ∨ 255 < v.toNat ∨ v.toNat < s.L then s.fails .illegalInstruction
  else .next (s.setG v.toNat).advance

/-- `PUT rL` (R480): rL can be lowered, never raised. -/
def State.putRL (v : Word) (s : State) : Result :=
  .next (if v.toNat < s.L then s.setFrame (s.frame.take v.toNat) else s).advance

/-- The instruction whose whole effect is a new set of stored special registers and the advance of `pc`. -/
def State.putStored (r : Specials) (s : State) : Result := .next (s.setSr r).advance

/-- `PUT` of the value `v` to a special register (R477). -/
def State.putSpecial (r : SpecialReg) (v : Word) (s : State) : Result :=
  match r with
  | .rN | .rO | .rS => s.fails .illegalInstruction
  | .rC | .rI | .rT | .rTT | .rK | .rQ | .rU | .rV => s.fails .privileged
  | .rA => s.putRA v
  | .rG => s.putRG v
  | .rL => s.putRL v
  | .rB => s.putStored { s.sr with rB := v }
  | .rD => s.putStored { s.sr with rD := v }
  | .rE => s.putStored { s.sr with rE := v }
  | .rH => s.putStored { s.sr with rH := v }
  | .rJ => s.putStored { s.sr with rJ := v }
  | .rM => s.putStored { s.sr with rM := v }
  | .rR => s.putStored { s.sr with rR := v }
  | .rBB => s.putStored { s.sr with rBB := v }
  | .rF => s.putStored { s.sr with rF := v }
  | .rP => s.putStored { s.sr with rP := v }
  | .rW => s.putStored { s.sr with rW := v }
  | .rX => s.putStored { s.sr with rX := v }
  | .rY => s.putStored { s.sr with rY := v }
  | .rZ => s.putStored { s.sr with rZ := v }
  | .rWW => s.putStored { s.sr with rWW := v }
  | .rXX => s.putStored { s.sr with rXX := v }
  | .rYY => s.putStored { s.sr with rYY := v }
  | .rZZ => s.putStored { s.sr with rZZ := v }

/-! ### The trip and its return -/

/-- Entering a trip with the instruction word `w` and the operands `y`, `z` (47_system.md R494, 60_exceptions.md R514):
rX, rY, rZ, rB, `$255`, rW and `pc`, in that order, every value read before the first write (00_scope.md R10). -/
def State.trip (w : Tetra) (y z : Word) (s : State) : State :=
  ((s.setReg 255 s.sr.rJ).setSr
    { s.sr with
      rX := 0x8000000000000000#64 ||| w.setWidth 64
      rY := y
      rZ := z
      rB := s.reg 255
      rW := s.pc + 4 }).setPc Config.tripHandler

/-- The return from a trip (47_system.md R495, 60_exceptions.md R516). -/
def State.resume (s : State) : Result :=
  if s.sr.rX.msb then .next (s.setPc (alignTarget s.sr.rW)) else s.fails .unimplemented

/-! ### The register stack -/

/-- The number of registers that `push(X, target)` hides: X, or every local register when `$X` is global
(45_control_transfer.md R400). -/
def State.hole (x : Byte) (s : State) : Nat := if s.G ≤ x.toNat then s.L else x.toNat

/-- The frame with `$L` to `$X'` made local, holding 0 (R400). -/
def State.widened (h : Nat) (s : State) : List Word := s.frame ++ List.replicate (h + 1 - s.L) 0

/-- `push(X, target)` without the check of `RING_LIMIT` (R400). -/
def State.pushed (x : Byte) (target : Word) (s : State) : State :=
  let h := s.hole x
  let f := s.widened h
  (((s.setStack (s.stack ++ f.take h ++ [BitVec.ofNat 64 h])).setFrame (f.drop (h + 1))).setSr
    { s.sr with rJ := s.pc + 4 }).setPc target

/-- `push(X, target)` (R400, 10_state.md R33). -/
def State.push (x : Byte) (target : Word) (s : State) : Result :=
  let t := s.pushed x target
  if s.ringAllows t.stack.length t.L then .next t else s.fails .registerStackOverflow

/-- The number of values that `POP X` returns (45_control_transfer.md R403). -/
def State.popCount (x : Byte) (s : State) : Nat := if x.toNat ≤ s.L then x.toNat else s.L + 1

/-- The main result of `POP X` (R403). -/
def State.popMain (x : Byte) (s : State) : Word :=
  if x.toNat ≠ 0 ∧ x.toNat ≤ s.L then s.frame.getD (x.toNat - 1) 0 else 0

/-- The hole on top of the register stack: how many caller registers lie below it (R403). -/
def State.topHole (s : State) : Nat := (s.stack.getLastD 0).toNat

/-- The caller's registers, those below the hole on top of the register stack (R403). -/
def State.callerFrame (s : State) : List Word :=
  (s.stack.take (s.stack.length - 1)).drop (s.stack.length - 1 - s.topHole)

/-- `POP X,YZ` on a register stack that is not empty (R403, R405). -/
def State.popped (x : Byte) (yz : Wyde) (s : State) : State :=
  let n := s.popCount x
  let k := s.topHole
  let results := s.popMain x :: s.frame.take (n - 1)
  ((s.setFrame ((s.callerFrame ++ results).take (min (k + n) s.G))).setStack
    (s.stack.take (s.stack.length - (k + 1)))).setPc
    (alignTarget (s.sr.rJ + BitVec.ofNat 64 (4 * yz.toNat)))

/-- `POP X,YZ` (R403). -/
def State.pop (x : Byte) (yz : Wyde) (s : State) : Result :=
  if s.stack.isEmpty then s.fails .stackUnderflow else .next (s.popped x yz)

/-! ### SAVE and UNSAVE -/

/-- The twelve special registers of a saved context, in its order (47_system.md R481). -/
def Specials.saved (r : Specials) : List Word :=
  [r.rB, r.rD, r.rE, r.rH, r.rJ, r.rM, r.rR, r.rP, r.rW, r.rX, r.rY, r.rZ]

/-- The final octa of a saved context: `(G << 56) OR (L << 48) OR rA` (R481). -/
def State.finalOcta (s : State) : Word :=
  (BitVec.ofNat 64 s.G <<< 56) ||| (BitVec.ofNat 64 s.L <<< 48) ||| s.sr.rA

/-- The octas of a saved context, in its order: locals, globals, special registers, final octa (R481). -/
def State.context (s : State) : List Word := s.frame ++ s.glob ++ s.sr.saved ++ [s.finalOcta]

/-- The first address of the context that `SAVE $X` writes (R481). -/
def State.saveBase (x : Byte) (s : State) : Word := s.reg x &&& ~~~7#64

/-- `SAVE $X,0` (R481). -/
def State.saveContext (x : Byte) (s : State) : Result :=
  let a := s.saveBase x
  s.guardWrite x
    (((s.setMem (s.mem.storeOctas a s.context)).setReg x
      (a + BitVec.ofNat 64 (8 * (s.context.length - 1)))).advance)

/-- `UNSAVE` from the final octa at `f` (R482). The check of `RING_LIMIT` is 10_state.md R33's (assumption 7). -/
def State.unsaveContext (f : Word) (s : State) : Result :=
  let t : Word := BitVec.ofNat 64 (s.mem.load 8 f)
  let g := (t.extractLsb' 56 8).toNat
  let l := (t.extractLsb' 48 8).toNat
  if g < 32 ∨ g < l then s.fails .illegalInstruction
  else if !s.ringAllows s.stack.length l then s.fails .registerStackOverflow
  else
    let b := f - 96
    let g0 := b - BitVec.ofNat 64 (8 * (256 - g))
    let a := g0 - BitVec.ofNat 64 (8 * l)
    let oct (j : Nat) : Word := BitVec.ofNat 64 (s.mem.load 8 (b + BitVec.ofNat 64 (8 * j)))
    .next ((((s.setSr
      { s.sr with
        rB := oct 0, rD := oct 1, rE := oct 2, rH := oct 3, rJ := oct 4, rM := oct 5
        rR := oct 6, rP := oct 7, rW := oct 8, rX := oct 9, rY := oct 10, rZ := oct 11
        rA := (t.extractLsb' 0 18).setWidth 64 }).setGlob (s.mem.loadOctas g0 (256 - g))).setFrame
      (s.mem.loadOctas a l)).advance)

/-! ### Instruction fetch -/

/-- The tetra at `pc` (20_memory.md R90). -/
def State.fetch (s : State) : Tetra := BitVec.ofNat 32 (s.mem.load 4 s.pc)

/-- The opcode of `i` is in `IMPLEMENTED` (30_encoding.md R133). -/
def State.implements (i : Instr) (s : State) : Bool := !s.params.notImplemented.contains (opcode i)

end Sys2Proof.Machine
end

