-- ==== Sys2Proof/Machine/Float.lean ====
section
/-! DEFINITION. IEEE-754 arithmetic on bit patterns (46_floating_point.md R420-R449), computed exactly: an operand is a
sign and a number of units of the least subnormal, a result is an exact nonnegative rational or the square root of one,
rounded once. Every operation answers its value and the events of R422 and R424. -/

namespace Sys2Proof.Machine

/-! ### Formats and classes (R420) -/

/-- A binary format: the widths of its exponent and fraction fields. -/
structure Format where
  expBits : Nat
  fracBits : Nat
  deriving DecidableEq, Repr

def binary64 : Format := ⟨11, 52⟩

def binary32 : Format := ⟨8, 23⟩

/-- The exponent bias. -/
def Format.bias (f : Format) : Nat := 2 ^ (f.expBits - 1) - 1

/-- The least subnormal number is `2^(-scale)`: the unit of `FloatVal.finite`. -/
def Format.scale (f : Format) : Nat := f.bias - 1 + f.fracBits

/-- The bits of infinity below the sign. -/
def Format.infBits (f : Format) : Nat := (2 ^ f.expBits - 1) * 2 ^ f.fracBits

/-- The sign bit's weight. -/
def Format.signBit (f : Format) : Nat := 2 ^ (f.expBits + f.fracBits)

/-- A floating-point datum by class (R420): a finite number is `units * 2^(-scale)` with its sign, so that zeros,
subnormals and normals are one form; a NaN is quiet or signaling (R425). -/
inductive FloatVal where
  | finite (neg : Bool) (units : Nat)
  | inf (neg : Bool)
  | nan (quiet : Bool)
  deriving DecidableEq, Repr

/-- The datum that a bit pattern stands for (R420, R424). -/
def Format.unpack (f : Format) (bits : Nat) : FloatVal :=
  let neg := decide (bits / f.signBit % 2 = 1)
  let e := bits / 2 ^ f.fracBits % 2 ^ f.expBits
  let m := bits % 2 ^ f.fracBits
  if e = 2 ^ f.expBits - 1 then
    (if m = 0 then .inf neg else .nan (decide (2 ^ (f.fracBits - 1) ≤ m)))
  else if e = 0 then .finite neg m
  else .finite neg ((2 ^ f.fracBits + m) * 2 ^ (e - 1))

/-- A bit pattern from a sign and the bits below it. -/
def Format.pack (f : Format) (neg : Bool) (mag : Nat) : Nat := (if neg then f.signBit else 0) + mag

/-- The datum in a 64-bit word. -/
def floatVal (v : Word) : FloatVal := binary64.unpack v.toNat

/-- A finite datum as a signed number of units. -/
def signedUnits (neg : Bool) (units : Nat) : Int := if neg then -(units : Int) else units

def FloatVal.isNan (v : FloatVal) : Bool :=
  match v with
  | .nan _ => true
  | .finite _ _ | .inf _ => false

def FloatVal.isSignaling (v : FloatVal) : Bool :=
  match v with
  | .nan quiet => !quiet
  | .finite _ _ | .inf _ => false

/-! ### Exact values and rounding (R421-R423) -/

/-- An exact nonnegative real: `num / den`, or its square root. -/
structure Exact where
  num : Nat
  den : Nat
  root : Bool := false
  deriving DecidableEq, Repr

/-- Where a real lies between an integer and the next. -/
inductive Frac where
  | zero | low | half | high
  deriving DecidableEq, Repr

/-- The bits of the integer square root of `n` from bit `b - 1` down, over the bits found so far. -/
def isqrtBits (n : Nat) : Nat → Nat → Nat
  | 0, r => r
  | b + 1, r => isqrtBits n b (if (r + 2 ^ b) * (r + 2 ^ b) ≤ n then r + 2 ^ b else r)

/-- The integer square root, the greatest `r` with `r * r <= n`. -/
def isqrt (n : Nat) : Nat := isqrtBits n (n.log2 / 2 + 1) 0

/-- Comparison of twice a remainder with its divisor. -/
def fracOf (twice den : Nat) : Frac :=
  if twice = 0 then .zero else if twice < den then .low else if twice = den then .half else .high

/-- The integer part of `r / 2^q`, and where the rest lies. -/
def Exact.split (r : Exact) (q : Int) : Nat × Frac :=
  if r.root then
    let n := r.num * 2 ^ (-(2 * q)).toNat
    let d := r.den * 2 ^ (2 * q).toNat
    let k := isqrt (n / d)
    (k, if k * k * d = n then .zero
        else if 4 * n < (2 * k + 1) * (2 * k + 1) * d then .low
        else if 4 * n = (2 * k + 1) * (2 * k + 1) * d then .half
        else .high)
  else
    let n := r.num * 2 ^ (-q).toNat
    let d := r.den * 2 ^ q.toNat
    (n / d, fracOf (2 * (n % d)) d)

/-- `floor(log2 r)` of a positive exact value. -/
def Exact.log2 (r : Exact) : Int :=
  let e : Int := (r.num.log2 : Int) - r.den.log2
  let e' := if r.den * 2 ^ e.toNat ≤ r.num * 2 ^ (-e).toNat then e else e - 1
  if r.root then e' / 2 else e'

/-- The integer that `k` and the fraction above it round to, for a number of the given sign: NEAR to nearest with
ties to even, OFF toward zero, UP toward plus infinity, DOWN toward minus infinity (R421). -/
def roundUnit (mode : Rounding) (neg : Bool) (k : Nat) (fr : Frac) : Nat :=
  match mode, fr with
  | _, .zero => k
  | .near, .low => k
  | .near, .half => if k % 2 = 1 then k + 1 else k
  | .near, .high => k + 1
  | .off, _ => k
  | .up, _ => if neg then k else k + 1
  | .down, _ => if neg then k + 1 else k

/-- An overflowing result is infinite: NEAR always, UP when positive, DOWN when negative (R422). -/
def overflowsToInf (mode : Rounding) (neg : Bool) : Bool :=
  match mode with
  | .near => true
  | .off => false
  | .up => !neg
  | .down => neg

/-- `r` is tiny in the format (R423): before rounding, its exact value is below the least normal number `2^(1-bias)`;
after rounding, what it rounds to with an unbounded exponent range is (assumption 10). -/
def tiny (f : Format) (t : Tininess) (mode : Rounding) (neg : Bool) (r : Exact) : Bool :=
  match t with
  | .beforeRounding => decide (r.log2 < 1 - (f.bias : Int))
  | .afterRounding =>
    let q := r.log2 - f.fracBits
    let (k, fr) := r.split q
    decide (((roundUnit mode neg k fr).log2 : Int) + q < 1 - (f.bias : Int))

/-- An exact value with its sign rounded to a format: the bit pattern and the events X, O, U (R422, R423). The
significand is the value in multiples of `2^q`, where `q` leaves `fracBits + 1` significant bits or is the subnormals'
unit; a carry out of the significand moves into the exponent field by the addition. -/
def roundTo (f : Format) (t : Tininess) (mode : Rounding) (neg : Bool) (r : Exact) : Nat × Byte :=
  if r.num = 0 then (f.pack neg 0, 0)
  else
    let q := max (r.log2 - f.fracBits) (-(f.scale : Int))
    let (k, fr) := r.split q
    let mag := (q + f.scale).toNat * 2 ^ f.fracBits + roundUnit mode neg k fr
    if f.infBits ≤ mag then
      (f.pack neg (if overflowsToInf mode neg then f.infBits else f.infBits - 1), eventO ||| eventX)
    else
      (f.pack neg mag,
        if fr = .zero then 0 else if tiny f t mode neg r then eventU ||| eventX else eventX)

/-- `round64` as a 64-bit word with its events (R422). -/
def round64 (p : Params) (mode : Rounding) (neg : Bool) (r : Exact) : Word × Byte :=
  let (bits, ev) := roundTo binary64 p.tininess mode neg r
  (BitVec.ofNat 64 bits, ev)

/-- A signed integer number of binary64 units, with the sign a zero takes, rounded. -/
def round64Units (p : Params) (mode : Rounding) (zeroNeg : Bool) (n : Int) : Word × Byte :=
  round64 p mode (if n = 0 then zeroNeg else decide (n < 0)) ⟨n.natAbs, 2 ^ binary64.scale, false⟩

/-! ### Special data -/

/-- An infinity of the given sign. -/
def infWord (neg : Bool) : Word := BitVec.ofNat 64 (binary64.pack neg binary64.infBits)

/-- A zero of the given sign. -/
def zeroWord (neg : Bool) : Word := BitVec.ofNat 64 (binary64.pack neg 0)

/-- `quiet(v)` (R424). -/
def quieted (v : Word) : Word := v ||| 0x0008000000000000#64

/-- The result of a binary operation with a NaN operand: z's NaN before y's, quieted; I when either is signaling
(R424). -/
def nanBinary (y z : Word) : Word × Byte :=
  (if (floatVal z).isNan then quieted z else quieted y,
    if (floatVal y).isSignaling || (floatVal z).isSignaling then eventI else 0)

/-- The result of a unary operation on a NaN (R424). -/
def nanUnary (z : Word) : Word × Byte := (quieted z, if (floatVal z).isSignaling then eventI else 0)

/-- The result of an invalid operation on operands that are no NaN: `NAN_RESULT` with I (R424). -/
def invalid (p : Params) : Word × Byte := (p.nanResult, eventI)

/-! ### Arithmetic (R427-R433) -/

/-- `FADD` (R427): the exact sum of finite operands is rounded; a sum 0 of equal signs keeps the sign, of opposite
signs it is -0 under DOWN and +0 otherwise (R422). -/
def fadd (p : Params) (mode : Rounding) (y z : Word) : Word × Byte :=
  match floatVal y, floatVal z with
  | .nan _, _ => nanBinary y z
  | _, .nan _ => nanBinary y z
  | .inf a, .inf b => if a = b then (y, 0) else invalid p
  | .inf _, .finite _ _ => (y, 0)
  | .finite _ _, .inf _ => (z, 0)
  | .finite a m, .finite b n =>
    round64Units p mode (if a = b then a else decide (mode = .down)) (signedUnits a m + signedUnits b n)

/-- `FSUB` (R428): `FADD` of y and z with its sign inverted, but a NaN z is returned with its own sign. -/
def fsub (p : Params) (mode : Rounding) (y z : Word) : Word × Byte :=
  if (floatVal y).isNan || (floatVal z).isNan then nanBinary y z
  else fadd p mode y (z ^^^ 0x8000000000000000#64)

/-- `FMUL` (R429). -/
def fmul (p : Params) (mode : Rounding) (y z : Word) : Word × Byte :=
  match floatVal y, floatVal z with
  | .nan _, _ => nanBinary y z
  | _, .nan _ => nanBinary y z
  | .inf a, .inf b => (infWord (a != b), 0)
  | .inf a, .finite b n => if n = 0 then invalid p else (infWord (a != b), 0)
  | .finite a m, .inf b => if m = 0 then invalid p else (infWord (a != b), 0)
  | .finite a m, .finite b n => round64 p mode (a != b) ⟨m * n, 2 ^ (2 * binary64.scale), false⟩

/-- `FDIV` (R430). -/
def fdiv (p : Params) (mode : Rounding) (y z : Word) : Word × Byte :=
  match floatVal y, floatVal z with
  | .nan _, _ => nanBinary y z
  | _, .nan _ => nanBinary y z
  | .inf _, .inf _ => invalid p
  | .inf a, .finite b n => (infWord (a != b), if n = 0 then eventZ else 0)
  | .finite a _, .inf b => (zeroWord (a != b), 0)
  | .finite a m, .finite b n =>
    if n = 0 then (if m = 0 then invalid p else (infWord (a != b), eventZ))
    else round64 p mode (a != b) ⟨m, n, false⟩

/-- `FREM` (R431): the remainder of the division by the nearest integer quotient, ties to even; exact, and a zero has
the sign of y. -/
def frem (p : Params) (y z : Word) : Word × Byte :=
  match floatVal y, floatVal z with
  | .nan _, _ => nanBinary y z
  | _, .nan _ => nanBinary y z
  | .inf _, .inf _ => invalid p
  | .inf _, .finite _ _ => invalid p
  | .finite _ _, .inf _ => (y, 0)
  | .finite a m, .finite _ n =>
    if n = 0 then invalid p
    else
      let k := roundUnit .near false (m / n) (fracOf (2 * (m % n)) n)
      let r : Int := (m : Int) - (k * n : Nat)
      ((round64Units p .near a (if a then -r else r)).1, 0)

/-- `FSQRT` (R432). -/
def fsqrt (p : Params) (mode : Rounding) (z : Word) : Word × Byte :=
  match floatVal z with
  | .nan _ => nanUnary z
  | .inf neg => if neg then invalid p else (z, 0)
  | .finite neg m =>
    if m = 0 then (z, 0)
    else if neg then invalid p
    else round64 p mode false ⟨m, 2 ^ binary64.scale, true⟩

/-- The magnitude of a finite binary64 datum rounded to an integer, and whether that changed it. -/
def roundInteger (mode : Rounding) (neg : Bool) (units : Nat) : Nat × Bool :=
  let (k, fr) := (Exact.mk units (2 ^ binary64.scale) false).split 0
  (roundUnit mode neg k fr, decide (fr ≠ .zero))

/-- `FINT` (R433): an integral value, keeping the sign of z; X when the value changed. -/
def fint (p : Params) (mode : Rounding) (z : Word) : Word × Byte :=
  match floatVal z with
  | .nan _ => nanUnary z
  | .inf _ => (z, 0)
  | .finite neg m =>
    let (n, inexact) := roundInteger mode neg m
    ((round64 p .near neg ⟨n, 1, false⟩).1, if inexact then eventX else 0)

/-! ### Conversions (R434-R439, R448, R449) -/

/-- `FIX` (R434), and `FIXU` (R435) when `signed` is false, which sets no W. -/
def ffix (signed : Bool) (mode : Rounding) (z : Word) : Word × Byte :=
  match floatVal z with
  | .nan _ => (quieted z, eventI)
  | .inf _ => (z, eventI)
  | .finite neg m =>
    let (k, inexact) := roundInteger mode neg m
    let n := signedUnits neg k
    (wrap64 n, (if inexact then eventX else 0) ||| (if signed && !decide (fitsSigned 64 n) then eventW else 0))

/-- `FLOT`, `FLOTU` (R436, R437): an integer rounded to binary64. -/
def flot (p : Params) (mode : Rounding) (n : Int) : Word × Byte :=
  round64 p mode (decide (n < 0)) ⟨n.natAbs, 1, false⟩

/-- `load_sf` (R448): the binary64 of the same value; a NaN keeps its sign and its fraction, shifted into place. -/
def loadSf (t : Tetra) : Word :=
  match binary32.unpack t.toNat with
  | .nan _ =>
    BitVec.ofNat 64 (binary64.pack t.msb (binary64.infBits + t.toNat % 2 ^ 23 * 2 ^ 29))
  | .inf neg => infWord neg
  | .finite neg m => BitVec.ofNat 64 (roundTo binary64 .beforeRounding .near neg ⟨m, 2 ^ binary32.scale, false⟩).1

/-- `SFLOT`, `SFLOTU` (R438, R439): an integer rounded to binary32, delivered as binary64. -/
def sflot (p : Params) (mode : Rounding) (n : Int) : Word × Byte :=
  let (bits, ev) := roundTo binary32 p.tininess mode (decide (n < 0)) ⟨n.natAbs, 1, false⟩
  (loadSf (BitVec.ofNat 32 bits), ev)

/-- `store_sf` (R449): the tetra and the events. A NaN is quieted and keeps its sign and the high bits of its
fraction. -/
def storeSf (p : Params) (mode : Rounding) (v : Word) : Tetra × Byte :=
  match floatVal v with
  | .nan quiet =>
    (BitVec.ofNat 32 (binary32.pack v.msb binary32.infBits) ||| 0x00400000#32 ||| (v.extractLsb' 29 23).setWidth 32,
      if quiet then 0 else eventI)
  | .inf neg => (BitVec.ofNat 32 (binary32.pack neg binary32.infBits), 0)
  | .finite neg m =>
    let (bits, ev) := roundTo binary32 p.tininess mode neg ⟨m, 2 ^ binary64.scale, false⟩
    (BitVec.ofNat 32 bits, ev)

/-! ### Comparisons (R440-R447) -/

/-- The order of two data that are no NaN, in the reals extended by the infinities, +0 = -0; none when either is a
NaN (R440). -/
def FloatVal.cmp (y z : FloatVal) : Option Ordering :=
  match y, z with
  | .nan _, _ => none
  | _, .nan _ => none
  | .inf a, .inf b => some (if a = b then .eq else if a then .lt else .gt)
  | .inf a, .finite _ _ => some (if a then .lt else .gt)
  | .finite _ _, .inf b => some (if b then .gt else .lt)
  | .finite a m, .finite b n => some (compare (signedUnits a m) (signedUnits b n))

/-- `fcomp(y, z)`, unordered being none (R440). -/
def fcomp (y z : Word) : Option Ordering := (floatVal y).cmp (floatVal z)

/-- -1, 0 or 1 as a word. -/
def orderingWord (o : Ordering) : Word :=
  match o with
  | .lt => wrap64 (-1)
  | .eq => 0
  | .gt => 1

/-- A truth value as 0 or 1. -/
def boolWord (b : Bool) : Word := if b then 1 else 0

/-- `FCMP` (R441). -/
def fcmp (y z : Word) : Word × Byte :=
  match fcomp y z with
  | none => (0, eventI)
  | some o => (orderingWord o, 0)

/-- `FUN` (R442). -/
def funordered (y z : Word) : Word := boolWord (decide (fcomp y z = none))

/-- `FEQL` (R443). -/
def feql (y z : Word) : Word := boolWord (decide (fcomp y z = some .eq))

/-- `x` is in the neighbourhood `N(u)` for the tolerance `e`, a datum that is no NaN and not negative (R444). For a
finite `u` other than 0 the radius is `e * 2^(floor(log2|u|) + 1)`, both sides here in units of `2^(-scale)`; an
infinite `e` makes it infinite (assumption 9). -/
def inNeighbourhood (e u x : FloatVal) : Bool :=
  match u, x with
  | .nan _, _ => false
  | _, .nan _ => false
  | .finite a m, _ =>
    if m = 0 then decide (x = .finite false 0 ∨ x = .finite true 0)
    else
      match e, x with
      | .finite _ eps, .finite b n =>
        decide ((signedUnits b n - signedUnits a m).natAbs * 2 ^ binary64.scale ≤ eps * 2 ^ (m.log2 + 1))
      | .finite _ _, .inf _ => false
      | .finite _ _, .nan _ => false
      | .inf _, _ => true
      | .nan _, _ => false
  | .inf a, _ =>
    match e with
    | .finite _ eps =>
      if eps < 2 ^ binary64.scale then decide (x = .inf a)
      else if eps < 2 ^ (binary64.scale + 1) then decide (x ≠ .inf !a)
      else true
    | .inf _ => true
    | .nan _ => false

/-- The comparison with respect to rE is unordered: y, z or e is a NaN, or e has its sign bit set (R444). -/
def unorderedE (e y z : Word) : Bool :=
  (floatVal y).isNan || (floatVal z).isNan || (floatVal e).isNan || e.msb

/-- `y ~ z` (R444). -/
def similarE (e y z : Word) : Bool :=
  inNeighbourhood (floatVal e) (floatVal z) (floatVal y) || inNeighbourhood (floatVal e) (floatVal y) (floatVal z)

/-- `y ≈ z` (R444). -/
def essentiallyEqualE (e y z : Word) : Bool :=
  inNeighbourhood (floatVal e) (floatVal z) (floatVal y) && inNeighbourhood (floatVal e) (floatVal y) (floatVal z)

/-- `FCMPE` (R445). -/
def fcmpe (e y z : Word) : Word × Byte :=
  if unorderedE e y z then (0, eventI)
  else if similarE e y z then (0, 0)
  else fcmp y z

/-- `FUNE` (R446). -/
def fune (e y z : Word) : Word := boolWord (unorderedE e y z)

/-- `FEQLE` (R447). -/
def feqle (e y z : Word) : Word := boolWord (!unorderedE e y z && essentiallyEqualE e y z)

end Sys2Proof.Machine
end

