-- ==== Sys2Proof/Machine/Arith.lean ====
section
/-! DEFINITION. Integer arithmetic and comparison (40_integer_arith.md R200-R218): the operands are the spec's `y` and
`z` of R200, and an exact result is computed in the integers and narrowed once. -/

namespace Sys2Proof.Machine

/-- A signed result: its low 64 bits, and V when it does not fit (R200). -/
def State.signedX (x : Byte) (r : Int) (s : State) : Result := s.writeX x (wrap64 r) (overflowEvent r)

/-- An unsigned result: modulo 2^64, no event (R200). -/
def State.unsignedX (x : Byte) (r : Int) (s : State) : Result := s.writeX x (wrap64 r) 0

/-- The 128-bit product, its high half to rH and its low half to `$X` (R210). -/
def State.multiplyHighX (x : Byte) (y z : Word) (s : State) : Result :=
  let p := y.toNat * z.toNat
  s.guardWrite x (((s.setReg x (BitVec.ofNat 64 p)).setSr { s.sr with rH := BitVec.ofNat 64 (p / 2 ^ 64) }).advance)

/-- Quotient, remainder and events of a signed division (R211). -/
def divideSigned (y z : Word) : Word × Word × Byte :=
  if z = 0 then (0, y, eventD)
  else if y.toInt = -((2 ^ 63 : Nat) : Int) ∧ z.toInt = -1 then (y, 0, eventV)
  else
    let q := y.toInt.fdiv z.toInt
    (wrap64 q, wrap64 (y.toInt - q * z.toInt), 0)

/-- Quotient, remainder and (no) events of an unsigned division of `d * 2^64 + y` (R212). -/
def divideUnsigned (d y z : Word) : Word × Word × Byte :=
  if z.toNat ≤ d.toNat then (d, y, 0)
  else
    let n := d.toNat * 2 ^ 64 + y.toNat
    (BitVec.ofNat 64 (n / z.toNat), BitVec.ofNat 64 (n % z.toNat), 0)

/-- The quotient to `$X`, the remainder to rR, and the events (R211, R212). -/
def State.divideX (x : Byte) (r : Word × Word × Byte) (s : State) : Result :=
  s.guardWrite x ((((s.setReg x r.1).setSr { s.sr with rR := r.2.1 }).event r.2.2).advance)

/-- `ADD` (R201): signed add with overflow. -/
def execAdd (x y z : Byte) (s : State) : Result := s.signedX x ((s.reg y).toInt + (s.reg z).toInt)

/-- `ADDI` (R201): signed add with overflow, immediate. -/
def execAddi (x y z : Byte) (s : State) : Result := s.signedX x ((s.reg y).toInt + (zext8 z).toInt)

/-- `ADDU` (R202): unsigned add. -/
def execAddu (x y z : Byte) (s : State) : Result := s.unsignedX x (((s.reg y).toNat : Int) + (s.reg z).toNat)

/-- `ADDUI` (R202): unsigned add, immediate. -/
def execAddui (x y z : Byte) (s : State) : Result := s.unsignedX x (((s.reg y).toNat : Int) + (zext8 z).toNat)

/-- `SUB` (R203): signed subtract with overflow. -/
def execSub (x y z : Byte) (s : State) : Result := s.signedX x ((s.reg y).toInt - (s.reg z).toInt)

/-- `SUBI` (R203): signed subtract with overflow, immediate. -/
def execSubi (x y z : Byte) (s : State) : Result := s.signedX x ((s.reg y).toInt - (zext8 z).toInt)

/-- `SUBU` (R204): unsigned subtract. -/
def execSubu (x y z : Byte) (s : State) : Result := s.unsignedX x (((s.reg y).toNat : Int) - (s.reg z).toNat)

/-- `SUBUI` (R204): unsigned subtract, immediate. -/
def execSubui (x y z : Byte) (s : State) : Result := s.unsignedX x (((s.reg y).toNat : Int) - (zext8 z).toNat)

/-- `2ADDU` (R205): times 2 and add. -/
def execTwoAddu (x y z : Byte) (s : State) : Result := s.unsignedX x (((s.reg y).toNat : Int) * 2 + (s.reg z).toNat)

/-- `2ADDUI` (R205): times 2 and add, immediate. -/
def execTwoAddui (x y z : Byte) (s : State) : Result := s.unsignedX x (((s.reg y).toNat : Int) * 2 + (zext8 z).toNat)

/-- `4ADDU` (R206): times 4 and add. -/
def execFourAddu (x y z : Byte) (s : State) : Result := s.unsignedX x (((s.reg y).toNat : Int) * 4 + (s.reg z).toNat)

/-- `4ADDUI` (R206): times 4 and add, immediate. -/
def execFourAddui (x y z : Byte) (s : State) : Result := s.unsignedX x (((s.reg y).toNat : Int) * 4 + (zext8 z).toNat)

/-- `8ADDU` (R207): times 8 and add. -/
def execEightAddu (x y z : Byte) (s : State) : Result := s.unsignedX x (((s.reg y).toNat : Int) * 8 + (s.reg z).toNat)

/-- `8ADDUI` (R207): times 8 and add, immediate. -/
def execEightAddui (x y z : Byte) (s : State) : Result :=
  s.unsignedX x (((s.reg y).toNat : Int) * 8 + (zext8 z).toNat)

/-- `16ADDU` (R208): times 16 and add. -/
def execSixteenAddu (x y z : Byte) (s : State) : Result :=
  s.unsignedX x (((s.reg y).toNat : Int) * 16 + (s.reg z).toNat)

/-- `16ADDUI` (R208): times 16 and add, immediate. -/
def execSixteenAddui (x y z : Byte) (s : State) : Result :=
  s.unsignedX x (((s.reg y).toNat : Int) * 16 + (zext8 z).toNat)

/-- `MUL` (R209): signed multiply with overflow. -/
def execMul (x y z : Byte) (s : State) : Result := s.signedX x ((s.reg y).toInt * (s.reg z).toInt)

/-- `MULI` (R209): signed multiply with overflow, immediate. -/
def execMuli (x y z : Byte) (s : State) : Result := s.signedX x ((s.reg y).toInt * (zext8 z).toInt)

/-- `MULU` (R210): unsigned 64 by 64 multiply, the high half to rH. -/
def execMulu (x y z : Byte) (s : State) : Result := s.multiplyHighX x (s.reg y) (s.reg z)

/-- `MULUI` (R210): unsigned 64 by 64 multiply, the high half to rH, immediate. -/
def execMului (x y z : Byte) (s : State) : Result := s.multiplyHighX x (s.reg y) (zext8 z)

/-- `DIV` (R211): signed floor division, the remainder to rR. -/
def execDiv (x y z : Byte) (s : State) : Result := s.divideX x (divideSigned (s.reg y) (s.reg z))

/-- `DIVI` (R211): signed floor division, the remainder to rR, immediate. -/
def execDivi (x y z : Byte) (s : State) : Result := s.divideX x (divideSigned (s.reg y) (zext8 z))

/-- `DIVU` (R212): unsigned 128 by 64 division, the remainder to rR. -/
def execDivu (x y z : Byte) (s : State) : Result := s.divideX x (divideUnsigned s.sr.rD (s.reg y) (s.reg z))

/-- `DIVUI` (R212): unsigned 128 by 64 division, the remainder to rR, immediate. -/
def execDivui (x y z : Byte) (s : State) : Result := s.divideX x (divideUnsigned s.sr.rD (s.reg y) (zext8 z))

/-- `NEG` (R213): signed subtract from the field Y. -/
def execNeg (x y z : Byte) (s : State) : Result := s.signedX x ((y.toNat : Int) - (s.reg z).toInt)

/-- `NEGI` (R213): signed subtract from the field Y, immediate. -/
def execNegi (x y z : Byte) (s : State) : Result := s.signedX x ((y.toNat : Int) - (zext8 z).toInt)

/-- `NEGU` (R214): unsigned subtract from the field Y. -/
def execNegu (x y z : Byte) (s : State) : Result := s.unsignedX x ((y.toNat : Int) - (s.reg z).toNat)

/-- `NEGUI` (R214): unsigned subtract from the field Y, immediate. -/
def execNegui (x y z : Byte) (s : State) : Result := s.unsignedX x ((y.toNat : Int) - (zext8 z).toNat)

/-- `CMP` (R215): signed compare. -/
def execCmp (x y z : Byte) (s : State) : Result :=
  s.writeX x (orderingWord (compare (s.reg y).toInt (s.reg z).toInt)) 0

/-- `CMPI` (R215): signed compare, immediate. -/
def execCmpi (x y z : Byte) (s : State) : Result :=
  s.writeX x (orderingWord (compare (s.reg y).toInt (zext8 z).toInt)) 0

/-- `CMPU` (R216): unsigned compare. -/
def execCmpu (x y z : Byte) (s : State) : Result :=
  s.writeX x (orderingWord (compare (s.reg y).toNat (s.reg z).toNat)) 0

/-- `CMPUI` (R216): unsigned compare, immediate. -/
def execCmpui (x y z : Byte) (s : State) : Result :=
  s.writeX x (orderingWord (compare (s.reg y).toNat (zext8 z).toNat)) 0

end Sys2Proof.Machine
end

