-- ==== Sys2Proof/Machine/Branch.lean ====
section
/-! DEFINITION. Conditional branches (45_control_transfer.md R380-R396). A probable branch differs from a branch only by
the hint (30_encoding.md R132). -/

namespace Sys2Proof.Machine

/-- A branch by `4*k` when the condition holds of `$X` (R380). -/
def State.branch (c : Cond) (x : Byte) (k : Int) (s : State) : Result :=
  .next (if condHolds c (s.reg x) then s.setPc (relTarget s.pc k) else s.advance)

/-- `BN` (R381): branch if negative, forward. -/
def execBn (x : Byte) (yz : Wyde) (s : State) : Result := s.branch .n x (forward16 yz)

/-- `BNB` (R381): branch if negative, backward. -/
def execBnb (x : Byte) (yz : Wyde) (s : State) : Result := s.branch .n x (backward16 yz)

/-- `BZ` (R382): branch if zero, forward. -/
def execBz (x : Byte) (yz : Wyde) (s : State) : Result := s.branch .z x (forward16 yz)

/-- `BZB` (R382): branch if zero, backward. -/
def execBzb (x : Byte) (yz : Wyde) (s : State) : Result := s.branch .z x (backward16 yz)

/-- `BP` (R383): branch if positive, forward. -/
def execBp (x : Byte) (yz : Wyde) (s : State) : Result := s.branch .p x (forward16 yz)

/-- `BPB` (R383): branch if positive, backward. -/
def execBpb (x : Byte) (yz : Wyde) (s : State) : Result := s.branch .p x (backward16 yz)

/-- `BOD` (R384): branch if odd, forward. -/
def execBod (x : Byte) (yz : Wyde) (s : State) : Result := s.branch .od x (forward16 yz)

/-- `BODB` (R384): branch if odd, backward. -/
def execBodb (x : Byte) (yz : Wyde) (s : State) : Result := s.branch .od x (backward16 yz)

/-- `BNN` (R385): branch if nonnegative, forward. -/
def execBnn (x : Byte) (yz : Wyde) (s : State) : Result := s.branch .nn x (forward16 yz)

/-- `BNNB` (R385): branch if nonnegative, backward. -/
def execBnnb (x : Byte) (yz : Wyde) (s : State) : Result := s.branch .nn x (backward16 yz)

/-- `BNZ` (R386): branch if nonzero, forward. -/
def execBnz (x : Byte) (yz : Wyde) (s : State) : Result := s.branch .nz x (forward16 yz)

/-- `BNZB` (R386): branch if nonzero, backward. -/
def execBnzb (x : Byte) (yz : Wyde) (s : State) : Result := s.branch .nz x (backward16 yz)

/-- `BNP` (R387): branch if nonpositive, forward. -/
def execBnp (x : Byte) (yz : Wyde) (s : State) : Result := s.branch .np x (forward16 yz)

/-- `BNPB` (R387): branch if nonpositive, backward. -/
def execBnpb (x : Byte) (yz : Wyde) (s : State) : Result := s.branch .np x (backward16 yz)

/-- `BEV` (R388): branch if even, forward. -/
def execBev (x : Byte) (yz : Wyde) (s : State) : Result := s.branch .ev x (forward16 yz)

/-- `BEVB` (R388): branch if even, backward. -/
def execBevb (x : Byte) (yz : Wyde) (s : State) : Result := s.branch .ev x (backward16 yz)

/-- `PBN` (R389): probable branch if negative, forward. -/
def execPbn (x : Byte) (yz : Wyde) (s : State) : Result := s.branch .n x (forward16 yz)

/-- `PBNB` (R389): probable branch if negative, backward. -/
def execPbnb (x : Byte) (yz : Wyde) (s : State) : Result := s.branch .n x (backward16 yz)

/-- `PBZ` (R390): probable branch if zero, forward. -/
def execPbz (x : Byte) (yz : Wyde) (s : State) : Result := s.branch .z x (forward16 yz)

/-- `PBZB` (R390): probable branch if zero, backward. -/
def execPbzb (x : Byte) (yz : Wyde) (s : State) : Result := s.branch .z x (backward16 yz)

/-- `PBP` (R391): probable branch if positive, forward. -/
def execPbp (x : Byte) (yz : Wyde) (s : State) : Result := s.branch .p x (forward16 yz)

/-- `PBPB` (R391): probable branch if positive, backward. -/
def execPbpb (x : Byte) (yz : Wyde) (s : State) : Result := s.branch .p x (backward16 yz)

/-- `PBOD` (R392): probable branch if odd, forward. -/
def execPbod (x : Byte) (yz : Wyde) (s : State) : Result := s.branch .od x (forward16 yz)

/-- `PBODB` (R392): probable branch if odd, backward. -/
def execPbodb (x : Byte) (yz : Wyde) (s : State) : Result := s.branch .od x (backward16 yz)

/-- `PBNN` (R393): probable branch if nonnegative, forward. -/
def execPbnn (x : Byte) (yz : Wyde) (s : State) : Result := s.branch .nn x (forward16 yz)

/-- `PBNNB` (R393): probable branch if nonnegative, backward. -/
def execPbnnb (x : Byte) (yz : Wyde) (s : State) : Result := s.branch .nn x (backward16 yz)

/-- `PBNZ` (R394): probable branch if nonzero, forward. -/
def execPbnz (x : Byte) (yz : Wyde) (s : State) : Result := s.branch .nz x (forward16 yz)

/-- `PBNZB` (R394): probable branch if nonzero, backward. -/
def execPbnzb (x : Byte) (yz : Wyde) (s : State) : Result := s.branch .nz x (backward16 yz)

/-- `PBNP` (R395): probable branch if nonpositive, forward. -/
def execPbnp (x : Byte) (yz : Wyde) (s : State) : Result := s.branch .np x (forward16 yz)

/-- `PBNPB` (R395): probable branch if nonpositive, backward. -/
def execPbnpb (x : Byte) (yz : Wyde) (s : State) : Result := s.branch .np x (backward16 yz)

/-- `PBEV` (R396): probable branch if even, forward. -/
def execPbev (x : Byte) (yz : Wyde) (s : State) : Result := s.branch .ev x (forward16 yz)

/-- `PBEVB` (R396): probable branch if even, backward. -/
def execPbevb (x : Byte) (yz : Wyde) (s : State) : Result := s.branch .ev x (backward16 yz)

end Sys2Proof.Machine
end

