-- ==== Sys2Proof/Machine/CondSet.lean ====
section
/-! DEFINITION. Conditional set and zero-or-set (44_conditional_set.md R360-R376). `$X` is written in every case, a
false `CSxx` with its old value, so that a marginal `$X` becomes local. -/

namespace Sys2Proof.Machine

/-- `CSN` (R361): set if negative. -/
def execCsn (x y z : Byte) (s : State) : Result := s.writeX x (if condHolds .n (s.reg y) then s.reg z else s.reg x) 0

/-- `CSNI` (R361): set if negative, immediate. -/
def execCsni (x y z : Byte) (s : State) : Result := s.writeX x (if condHolds .n (s.reg y) then zext8 z else s.reg x) 0

/-- `CSZ` (R362): set if zero. -/
def execCsz (x y z : Byte) (s : State) : Result := s.writeX x (if condHolds .z (s.reg y) then s.reg z else s.reg x) 0

/-- `CSZI` (R362): set if zero, immediate. -/
def execCszi (x y z : Byte) (s : State) : Result := s.writeX x (if condHolds .z (s.reg y) then zext8 z else s.reg x) 0

/-- `CSP` (R363): set if positive. -/
def execCsp (x y z : Byte) (s : State) : Result := s.writeX x (if condHolds .p (s.reg y) then s.reg z else s.reg x) 0

/-- `CSPI` (R363): set if positive, immediate. -/
def execCspi (x y z : Byte) (s : State) : Result := s.writeX x (if condHolds .p (s.reg y) then zext8 z else s.reg x) 0

/-- `CSOD` (R364): set if odd. -/
def execCsod (x y z : Byte) (s : State) : Result :=
  s.writeX x (if condHolds .od (s.reg y) then s.reg z else s.reg x) 0

/-- `CSODI` (R364): set if odd, immediate. -/
def execCsodi (x y z : Byte) (s : State) : Result :=
  s.writeX x (if condHolds .od (s.reg y) then zext8 z else s.reg x) 0

/-- `CSNN` (R365): set if nonnegative. -/
def execCsnn (x y z : Byte) (s : State) : Result :=
  s.writeX x (if condHolds .nn (s.reg y) then s.reg z else s.reg x) 0

/-- `CSNNI` (R365): set if nonnegative, immediate. -/
def execCsnni (x y z : Byte) (s : State) : Result :=
  s.writeX x (if condHolds .nn (s.reg y) then zext8 z else s.reg x) 0

/-- `CSNZ` (R366): set if nonzero. -/
def execCsnz (x y z : Byte) (s : State) : Result :=
  s.writeX x (if condHolds .nz (s.reg y) then s.reg z else s.reg x) 0

/-- `CSNZI` (R366): set if nonzero, immediate. -/
def execCsnzi (x y z : Byte) (s : State) : Result :=
  s.writeX x (if condHolds .nz (s.reg y) then zext8 z else s.reg x) 0

/-- `CSNP` (R367): set if nonpositive. -/
def execCsnp (x y z : Byte) (s : State) : Result :=
  s.writeX x (if condHolds .np (s.reg y) then s.reg z else s.reg x) 0

/-- `CSNPI` (R367): set if nonpositive, immediate. -/
def execCsnpi (x y z : Byte) (s : State) : Result :=
  s.writeX x (if condHolds .np (s.reg y) then zext8 z else s.reg x) 0

/-- `CSEV` (R368): set if even. -/
def execCsev (x y z : Byte) (s : State) : Result :=
  s.writeX x (if condHolds .ev (s.reg y) then s.reg z else s.reg x) 0

/-- `CSEVI` (R368): set if even, immediate. -/
def execCsevi (x y z : Byte) (s : State) : Result :=
  s.writeX x (if condHolds .ev (s.reg y) then zext8 z else s.reg x) 0

/-- `ZSN` (R369): set if negative, else zero. -/
def execZsn (x y z : Byte) (s : State) : Result := s.writeX x (if condHolds .n (s.reg y) then s.reg z else 0) 0

/-- `ZSNI` (R369): set if negative, else zero, immediate. -/
def execZsni (x y z : Byte) (s : State) : Result := s.writeX x (if condHolds .n (s.reg y) then zext8 z else 0) 0

/-- `ZSZ` (R370): set if zero, else zero. -/
def execZsz (x y z : Byte) (s : State) : Result := s.writeX x (if condHolds .z (s.reg y) then s.reg z else 0) 0

/-- `ZSZI` (R370): set if zero, else zero, immediate. -/
def execZszi (x y z : Byte) (s : State) : Result := s.writeX x (if condHolds .z (s.reg y) then zext8 z else 0) 0

/-- `ZSP` (R371): set if positive, else zero. -/
def execZsp (x y z : Byte) (s : State) : Result := s.writeX x (if condHolds .p (s.reg y) then s.reg z else 0) 0

/-- `ZSPI` (R371): set if positive, else zero, immediate. -/
def execZspi (x y z : Byte) (s : State) : Result := s.writeX x (if condHolds .p (s.reg y) then zext8 z else 0) 0

/-- `ZSOD` (R372): set if odd, else zero. -/
def execZsod (x y z : Byte) (s : State) : Result := s.writeX x (if condHolds .od (s.reg y) then s.reg z else 0) 0

/-- `ZSODI` (R372): set if odd, else zero, immediate. -/
def execZsodi (x y z : Byte) (s : State) : Result := s.writeX x (if condHolds .od (s.reg y) then zext8 z else 0) 0

/-- `ZSNN` (R373): set if nonnegative, else zero. -/
def execZsnn (x y z : Byte) (s : State) : Result := s.writeX x (if condHolds .nn (s.reg y) then s.reg z else 0) 0

/-- `ZSNNI` (R373): set if nonnegative, else zero, immediate. -/
def execZsnni (x y z : Byte) (s : State) : Result := s.writeX x (if condHolds .nn (s.reg y) then zext8 z else 0) 0

/-- `ZSNZ` (R374): set if nonzero, else zero. -/
def execZsnz (x y z : Byte) (s : State) : Result := s.writeX x (if condHolds .nz (s.reg y) then s.reg z else 0) 0

/-- `ZSNZI` (R374): set if nonzero, else zero, immediate. -/
def execZsnzi (x y z : Byte) (s : State) : Result := s.writeX x (if condHolds .nz (s.reg y) then zext8 z else 0) 0

/-- `ZSNP` (R375): set if nonpositive, else zero. -/
def execZsnp (x y z : Byte) (s : State) : Result := s.writeX x (if condHolds .np (s.reg y) then s.reg z else 0) 0

/-- `ZSNPI` (R375): set if nonpositive, else zero, immediate. -/
def execZsnpi (x y z : Byte) (s : State) : Result := s.writeX x (if condHolds .np (s.reg y) then zext8 z else 0) 0

/-- `ZSEV` (R376): set if even, else zero. -/
def execZsev (x y z : Byte) (s : State) : Result := s.writeX x (if condHolds .ev (s.reg y) then s.reg z else 0) 0

/-- `ZSEVI` (R376): set if even, else zero, immediate. -/
def execZsevi (x y z : Byte) (s : State) : Result := s.writeX x (if condHolds .ev (s.reg y) then zext8 z else 0) 0

end Sys2Proof.Machine
end

