-- ==== Sys2Proof/Machine/Control.lean ====
section
/-! DEFINITION. Jumps, addresses, calls and returns (45_control_transfer.md R397-R405). -/

namespace Sys2Proof.Machine

/-- `$X <- @ + 4` and control to `a` with its low two bits cleared (R399, R405). -/
def State.goX (x : Byte) (a : Word) (s : State) : Result :=
  s.guardWrite x ((s.setReg x (s.pc + 4)).setPc (alignTarget a))

/-- `JMP` (R397): jump forward. -/
def execJmp (xyz : BitVec 24) (s : State) : Result := .next (s.setPc (relTarget s.pc (forward24 xyz)))

/-- `JMPB` (R397): jump backward. -/
def execJmpb (xyz : BitVec 24) (s : State) : Result := .next (s.setPc (relTarget s.pc (backward24 xyz)))

/-- `GETA` (R398): get address forward. -/
def execGeta (x : Byte) (yz : Wyde) (s : State) : Result := s.writeX x (relTarget s.pc (forward16 yz)) 0

/-- `GETAB` (R398): get address backward. -/
def execGetab (x : Byte) (yz : Wyde) (s : State) : Result := s.writeX x (relTarget s.pc (backward16 yz)) 0

/-- `GO` (R399): jump to an absolute address and link. -/
def execGo (x y z : Byte) (s : State) : Result := s.goX x (s.reg y + s.reg z)

/-- `GOI` (R399): jump to an absolute address and link, immediate. -/
def execGoi (x y z : Byte) (s : State) : Result := s.goX x (s.reg y + zext8 z)

/-- `PUSHJ` (R401): push registers and jump forward. -/
def execPushj (x : Byte) (yz : Wyde) (s : State) : Result := s.push x (relTarget s.pc (forward16 yz))

/-- `PUSHJB` (R401): push registers and jump backward. -/
def execPushjb (x : Byte) (yz : Wyde) (s : State) : Result := s.push x (relTarget s.pc (backward16 yz))

/-- `PUSHGO` (R402): push registers and jump to an absolute address. -/
def execPushgo (x y z : Byte) (s : State) : Result := s.push x (alignTarget (s.reg y + s.reg z))

/-- `PUSHGOI` (R402): push registers and jump to an absolute address, immediate. -/
def execPushgoi (x y z : Byte) (s : State) : Result := s.push x (alignTarget (s.reg y + zext8 z))

/-- `POP` (R403): pop registers and return. -/
def execPop (x : Byte) (yz : Wyde) (s : State) : Result := s.pop x yz

end Sys2Proof.Machine
end

