-- ==== Sys2Proof/Machine/FloatOps.lean ====
section
/-! DEFINITION. The floating-point instructions (46_floating_point.md R427-R447) over the arithmetic of
Machine/Float.lean. -/

namespace Sys2Proof.Machine

/-- A floating-point result and its events to `$X`. -/
def State.floatX (x : Byte) (r : Word × Byte) (s : State) : Result := s.writeX x r.1 r.2

/-- An operation under `mode_Y`: a field Y >= 5 is illegal, before anything changes (R421). -/
def State.roundedX (x y : Byte) (op : Rounding → Word × Byte) (s : State) : Result :=
  match s.modeY y with
  | none => s.fails .illegalInstruction
  | some m => s.floatX x (op m)

/-- `FCMP` (R441): compare. -/
def execFcmp (x y z : Byte) (s : State) : Result := s.floatX x (fcmp (s.reg y) (s.reg z))

/-- `FUN` (R442): unordered test. -/
def execFun (x y z : Byte) (s : State) : Result := s.writeX x (funordered (s.reg y) (s.reg z)) 0

/-- `FEQL` (R443): equality test. -/
def execFeql (x y z : Byte) (s : State) : Result := s.writeX x (feql (s.reg y) (s.reg z)) 0

/-- `FADD` (R427): add. -/
def execFadd (x y z : Byte) (s : State) : Result := s.floatX x (fadd s.params s.modeRA (s.reg y) (s.reg z))

/-- `FIX` (R434): convert to a signed integer. -/
def execFix (x y z : Byte) (s : State) : Result := s.roundedX x y (fun m => ffix true m (s.reg z))

/-- `FSUB` (R428): subtract. -/
def execFsub (x y z : Byte) (s : State) : Result := s.floatX x (fsub s.params s.modeRA (s.reg y) (s.reg z))

/-- `FIXU` (R435): convert to an unsigned integer. -/
def execFixu (x y z : Byte) (s : State) : Result := s.roundedX x y (fun m => ffix false m (s.reg z))

/-- `FLOT` (R436): convert a signed integer. -/
def execFlot (x y z : Byte) (s : State) : Result := s.roundedX x y (fun m => flot s.params m (s.reg z).toInt)

/-- `FLOTI` (R436): convert a signed integer, immediate. -/
def execFloti (x y z : Byte) (s : State) : Result := s.roundedX x y (fun m => flot s.params m (zext8 z).toInt)

/-- `FLOTU` (R437): convert an unsigned integer. -/
def execFlotu (x y z : Byte) (s : State) : Result := s.roundedX x y (fun m => flot s.params m (s.reg z).toNat)

/-- `FLOTUI` (R437): convert an unsigned integer, immediate. -/
def execFlotui (x y z : Byte) (s : State) : Result := s.roundedX x y (fun m => flot s.params m (zext8 z).toNat)

/-- `SFLOT` (R438): convert a signed integer to a short float. -/
def execSflot (x y z : Byte) (s : State) : Result := s.roundedX x y (fun m => sflot s.params m (s.reg z).toInt)

/-- `SFLOTI` (R438): convert a signed integer to a short float, immediate. -/
def execSfloti (x y z : Byte) (s : State) : Result := s.roundedX x y (fun m => sflot s.params m (zext8 z).toInt)

/-- `SFLOTU` (R439): convert an unsigned integer to a short float. -/
def execSflotu (x y z : Byte) (s : State) : Result := s.roundedX x y (fun m => sflot s.params m (s.reg z).toNat)

/-- `SFLOTUI` (R439): convert an unsigned integer to a short float, immediate. -/
def execSflotui (x y z : Byte) (s : State) : Result := s.roundedX x y (fun m => sflot s.params m (zext8 z).toNat)

/-- `FMUL` (R429): multiply. -/
def execFmul (x y z : Byte) (s : State) : Result := s.floatX x (fmul s.params s.modeRA (s.reg y) (s.reg z))

/-- `FCMPE` (R445): compare with respect to rE. -/
def execFcmpe (x y z : Byte) (s : State) : Result := s.floatX x (fcmpe s.sr.rE (s.reg y) (s.reg z))

/-- `FUNE` (R446): unordered with respect to rE. -/
def execFune (x y z : Byte) (s : State) : Result := s.writeX x (fune s.sr.rE (s.reg y) (s.reg z)) 0

/-- `FEQLE` (R447): essentially equal with respect to rE. -/
def execFeqle (x y z : Byte) (s : State) : Result := s.writeX x (feqle s.sr.rE (s.reg y) (s.reg z)) 0

/-- `FDIV` (R430): divide. -/
def execFdiv (x y z : Byte) (s : State) : Result := s.floatX x (fdiv s.params s.modeRA (s.reg y) (s.reg z))

/-- `FSQRT` (R432): square root. -/
def execFsqrt (x y z : Byte) (s : State) : Result := s.roundedX x y (fun m => fsqrt s.params m (s.reg z))

/-- `FREM` (R431): remainder. -/
def execFrem (x y z : Byte) (s : State) : Result := s.floatX x (frem s.params (s.reg y) (s.reg z))

/-- `FINT` (R433): round to an integral value. -/
def execFint (x y z : Byte) (s : State) : Result := s.roundedX x y (fun m => fint s.params m (s.reg z))

end Sys2Proof.Machine
end

