-- ==== Sys2Proof/Machine/LoadStore.lean ====
section
/-! DEFINITION. Loads, stores and `CSWAP` (43_load_store.md R320-R345). The effective address is the sum of the two
operands modulo 2^64 (R320); translation and alignment are the memory operations' own. -/

namespace Sys2Proof.Machine

/-- `CSWAP` of `$X` with the octa at `a` (R331). -/
def State.compareSwap (x : Byte) (a : Word) (s : State) : Result :=
  if s.loadUnsigned 8 a = s.sr.rP then
    s.guardWrite x (((s.setMem (s.mem.store 8 a (s.reg x))).setReg x 1).advance)
  else
    s.guardWrite x (((s.setSr { s.sr with rP := s.loadUnsigned 8 a }).setReg x 0).advance)

/-- A short float and its events stored at `a` (R341). -/
def State.storeShortFloat (a : Word) (r : Tetra × Byte) (s : State) : Result := s.storeX 4 a (r.1.setWidth 64) r.2

/-- `LDB` (R321): load byte, signed. -/
def execLdb (x y z : Byte) (s : State) : Result := s.writeX x (s.loadSigned 1 (s.reg y + s.reg z)) 0

/-- `LDBI` (R321): load byte, signed, immediate. -/
def execLdbi (x y z : Byte) (s : State) : Result := s.writeX x (s.loadSigned 1 (s.reg y + zext8 z)) 0

/-- `LDBU` (R322): load byte, unsigned. -/
def execLdbu (x y z : Byte) (s : State) : Result := s.writeX x (s.loadUnsigned 1 (s.reg y + s.reg z)) 0

/-- `LDBUI` (R322): load byte, unsigned, immediate. -/
def execLdbui (x y z : Byte) (s : State) : Result := s.writeX x (s.loadUnsigned 1 (s.reg y + zext8 z)) 0

/-- `LDW` (R323): load wyde, signed. -/
def execLdw (x y z : Byte) (s : State) : Result := s.writeX x (s.loadSigned 2 (s.reg y + s.reg z)) 0

/-- `LDWI` (R323): load wyde, signed, immediate. -/
def execLdwi (x y z : Byte) (s : State) : Result := s.writeX x (s.loadSigned 2 (s.reg y + zext8 z)) 0

/-- `LDWU` (R324): load wyde, unsigned. -/
def execLdwu (x y z : Byte) (s : State) : Result := s.writeX x (s.loadUnsigned 2 (s.reg y + s.reg z)) 0

/-- `LDWUI` (R324): load wyde, unsigned, immediate. -/
def execLdwui (x y z : Byte) (s : State) : Result := s.writeX x (s.loadUnsigned 2 (s.reg y + zext8 z)) 0

/-- `LDT` (R325): load tetra, signed. -/
def execLdt (x y z : Byte) (s : State) : Result := s.writeX x (s.loadSigned 4 (s.reg y + s.reg z)) 0

/-- `LDTI` (R325): load tetra, signed, immediate. -/
def execLdti (x y z : Byte) (s : State) : Result := s.writeX x (s.loadSigned 4 (s.reg y + zext8 z)) 0

/-- `LDTU` (R326): load tetra, unsigned. -/
def execLdtu (x y z : Byte) (s : State) : Result := s.writeX x (s.loadUnsigned 4 (s.reg y + s.reg z)) 0

/-- `LDTUI` (R326): load tetra, unsigned, immediate. -/
def execLdtui (x y z : Byte) (s : State) : Result := s.writeX x (s.loadUnsigned 4 (s.reg y + zext8 z)) 0

/-- `LDO` (R327): load octa. -/
def execLdo (x y z : Byte) (s : State) : Result := s.writeX x (s.loadUnsigned 8 (s.reg y + s.reg z)) 0

/-- `LDOI` (R327): load octa, immediate. -/
def execLdoi (x y z : Byte) (s : State) : Result := s.writeX x (s.loadUnsigned 8 (s.reg y + zext8 z)) 0

/-- `LDOU` (R328): load octa. -/
def execLdou (x y z : Byte) (s : State) : Result := s.writeX x (s.loadUnsigned 8 (s.reg y + s.reg z)) 0

/-- `LDOUI` (R328): load octa, immediate. -/
def execLdoui (x y z : Byte) (s : State) : Result := s.writeX x (s.loadUnsigned 8 (s.reg y + zext8 z)) 0

/-- `LDSF` (R329): load short float. -/
def execLdsf (x y z : Byte) (s : State) : Result :=
  s.writeX x (loadSf (BitVec.ofNat 32 (s.mem.load 4 (s.reg y + s.reg z)))) 0

/-- `LDSFI` (R329): load short float, immediate. -/
def execLdsfi (x y z : Byte) (s : State) : Result :=
  s.writeX x (loadSf (BitVec.ofNat 32 (s.mem.load 4 (s.reg y + zext8 z)))) 0

/-- `LDHT` (R330): load high tetra. -/
def execLdht (x y z : Byte) (s : State) : Result := s.writeX x (s.loadUnsigned 4 (s.reg y + s.reg z) <<< 32) 0

/-- `LDHTI` (R330): load high tetra, immediate. -/
def execLdhti (x y z : Byte) (s : State) : Result := s.writeX x (s.loadUnsigned 4 (s.reg y + zext8 z) <<< 32) 0

/-- `CSWAP` (R331): compare and swap octa. -/
def execCswap (x y z : Byte) (s : State) : Result := s.compareSwap x (s.reg y + s.reg z)

/-- `CSWAPI` (R331): compare and swap octa, immediate. -/
def execCswapi (x y z : Byte) (s : State) : Result := s.compareSwap x (s.reg y + zext8 z)

/-- `LDUNC` (R332): load octa uncached. -/
def execLdunc (x y z : Byte) (s : State) : Result := s.writeX x (s.loadUnsigned 8 (s.reg y + s.reg z)) 0

/-- `LDUNCI` (R332): load octa uncached, immediate. -/
def execLdunci (x y z : Byte) (s : State) : Result := s.writeX x (s.loadUnsigned 8 (s.reg y + zext8 z)) 0

/-- `STB` (R333): store byte, signed overflow check. -/
def execStb (x y z : Byte) (s : State) : Result :=
  s.storeX 1 (s.reg y + s.reg z) (s.reg x) (storeOverflowEvent 1 (s.reg x))

/-- `STBI` (R333): store byte, signed overflow check, immediate. -/
def execStbi (x y z : Byte) (s : State) : Result :=
  s.storeX 1 (s.reg y + zext8 z) (s.reg x) (storeOverflowEvent 1 (s.reg x))

/-- `STBU` (R334): store byte. -/
def execStbu (x y z : Byte) (s : State) : Result := s.storeX 1 (s.reg y + s.reg z) (s.reg x) 0

/-- `STBUI` (R334): store byte, immediate. -/
def execStbui (x y z : Byte) (s : State) : Result := s.storeX 1 (s.reg y + zext8 z) (s.reg x) 0

/-- `STW` (R335): store wyde, signed overflow check. -/
def execStw (x y z : Byte) (s : State) : Result :=
  s.storeX 2 (s.reg y + s.reg z) (s.reg x) (storeOverflowEvent 2 (s.reg x))

/-- `STWI` (R335): store wyde, signed overflow check, immediate. -/
def execStwi (x y z : Byte) (s : State) : Result :=
  s.storeX 2 (s.reg y + zext8 z) (s.reg x) (storeOverflowEvent 2 (s.reg x))

/-- `STWU` (R336): store wyde. -/
def execStwu (x y z : Byte) (s : State) : Result := s.storeX 2 (s.reg y + s.reg z) (s.reg x) 0

/-- `STWUI` (R336): store wyde, immediate. -/
def execStwui (x y z : Byte) (s : State) : Result := s.storeX 2 (s.reg y + zext8 z) (s.reg x) 0

/-- `STT` (R337): store tetra, signed overflow check. -/
def execStt (x y z : Byte) (s : State) : Result :=
  s.storeX 4 (s.reg y + s.reg z) (s.reg x) (storeOverflowEvent 4 (s.reg x))

/-- `STTI` (R337): store tetra, signed overflow check, immediate. -/
def execStti (x y z : Byte) (s : State) : Result :=
  s.storeX 4 (s.reg y + zext8 z) (s.reg x) (storeOverflowEvent 4 (s.reg x))

/-- `STTU` (R338): store tetra. -/
def execSttu (x y z : Byte) (s : State) : Result := s.storeX 4 (s.reg y + s.reg z) (s.reg x) 0

/-- `STTUI` (R338): store tetra, immediate. -/
def execSttui (x y z : Byte) (s : State) : Result := s.storeX 4 (s.reg y + zext8 z) (s.reg x) 0

/-- `STO` (R339): store octa. -/
def execSto (x y z : Byte) (s : State) : Result := s.storeX 8 (s.reg y + s.reg z) (s.reg x) 0

/-- `STOI` (R339): store octa, immediate. -/
def execStoi (x y z : Byte) (s : State) : Result := s.storeX 8 (s.reg y + zext8 z) (s.reg x) 0

/-- `STOU` (R340): store octa. -/
def execStou (x y z : Byte) (s : State) : Result := s.storeX 8 (s.reg y + s.reg z) (s.reg x) 0

/-- `STOUI` (R340): store octa, immediate. -/
def execStoui (x y z : Byte) (s : State) : Result := s.storeX 8 (s.reg y + zext8 z) (s.reg x) 0

/-- `STSF` (R341): store short float. -/
def execStsf (x y z : Byte) (s : State) : Result :=
  s.storeShortFloat (s.reg y + s.reg z) (storeSf s.params s.modeRA (s.reg x))

/-- `STSFI` (R341): store short float, immediate. -/
def execStsfi (x y z : Byte) (s : State) : Result :=
  s.storeShortFloat (s.reg y + zext8 z) (storeSf s.params s.modeRA (s.reg x))

/-- `STHT` (R342): store high tetra. -/
def execStht (x y z : Byte) (s : State) : Result := s.storeX 4 (s.reg y + s.reg z) (s.reg x >>> 32) 0

/-- `STHTI` (R342): store high tetra, immediate. -/
def execSthti (x y z : Byte) (s : State) : Result := s.storeX 4 (s.reg y + zext8 z) (s.reg x >>> 32) 0

/-- `STCO` (R343): store constant octa. -/
def execStco (x y z : Byte) (s : State) : Result := s.storeX 8 (s.reg y + s.reg z) (zext8 x) 0

/-- `STCOI` (R343): store constant octa, immediate. -/
def execStcoi (x y z : Byte) (s : State) : Result := s.storeX 8 (s.reg y + zext8 z) (zext8 x) 0

/-- `STUNC` (R344): store octa uncached. -/
def execStunc (x y z : Byte) (s : State) : Result := s.storeX 8 (s.reg y + s.reg z) (s.reg x) 0

/-- `STUNCI` (R344): store octa uncached, immediate. -/
def execStunci (x y z : Byte) (s : State) : Result := s.storeX 8 (s.reg y + zext8 z) (s.reg x) 0

end Sys2Proof.Machine
end

