-- ==== Sys2Proof/Machine/Logic.lean ====
section
/-! DEFINITION. Logic, shifts, saturating differences, multiplex, sideways add and bit matrices
(41_logical_bitwise.md R260-R279). -/

namespace Sys2Proof.Machine

/-- A left shift by the full unsigned amount, which is not reduced modulo 64 (R268, R269). -/
def shiftLeft (y z : Word) : Word := if 64 ≤ z.toNat then 0 else y <<< z.toNat

/-- A zero-filling right shift by the full unsigned amount (R271). -/
def shiftRight (y z : Word) : Word := if 64 ≤ z.toNat then 0 else y >>> z.toNat

/-- A sign-filling right shift (R270): 63 places and more all leave the sign alone. -/
def shiftRightSigned (y z : Word) : Word := y.sshiftRight (min z.toNat 63)

/-- `lane_i(v)` for lanes of `w` bits, as a number (section 3 of the file). -/
def lane (w i : Nat) (v : Word) : Nat := v.toNat / 2 ^ (w * i) % 2 ^ w

/-- The low `n` lanes of a saturating difference: each lane `max(lane_i(y) - lane_i(z), 0)` (R272-R275). -/
def laneDifferences (w : Nat) (y z : Word) : Nat → Nat
  | 0 => 0
  | i + 1 => laneDifferences w y z i + (lane w i y - lane w i z) * 2 ^ (w * i)

/-- The saturating difference of all lanes of `w` bits (R272-R275). -/
def laneDifference (w : Nat) (y z : Word) : Word := BitVec.ofNat 64 (laneDifferences w y z (64 / w))

/-- The number of 1 bits among the low `n` of a word. -/
def bitCount (v : Word) : Nat → Nat
  | 0 => 0
  | n + 1 => bitCount v n + (v.getLsbD n).toNat

/-- The number of 1 bits of a word (R277). -/
def sidewaysAdd (v : Word) : Word := BitVec.ofNat 64 (bitCount v 64)

/-- `byte_m(v)`, byte 0 the least significant (R278). -/
def byteAt (m : Nat) (v : Word) : Byte := v.extractLsb' (8 * m) 8

/-- `byte_k(y)` over every k below `n` whose bit is 1 in `sel`, combined by `f` from 0 (R278, R279). -/
def combineBytes (f : Byte → Byte → Byte) (y : Word) (sel : Byte) : Nat → Byte
  | 0 => 0
  | k + 1 => f (combineBytes f y sel k) (if sel.getLsbD k then byteAt k y else 0)

/-- The product of the bit matrices `z` and `y` under `f` (R278, R279): byte m selects by byte m of `z`. -/
def matrixProduct (f : Byte → Byte → Byte) (y z : Word) : Word :=
  let b (m : Nat) : Byte := combineBytes f y (byteAt m z) 8
  b 7 ++ b 6 ++ b 5 ++ b 4 ++ b 3 ++ b 2 ++ b 1 ++ b 0

/-- `OR` (R260): bitwise or. -/
def execOr (x y z : Byte) (s : State) : Result := s.writeX x (s.reg y ||| s.reg z) 0

/-- `ORI` (R260): bitwise or, immediate. -/
def execOri (x y z : Byte) (s : State) : Result := s.writeX x (s.reg y ||| zext8 z) 0

/-- `ORN` (R261): or-not. -/
def execOrn (x y z : Byte) (s : State) : Result := s.writeX x (s.reg y ||| ~~~(s.reg z)) 0

/-- `ORNI` (R261): or-not, immediate. -/
def execOrni (x y z : Byte) (s : State) : Result := s.writeX x (s.reg y ||| ~~~(zext8 z)) 0

/-- `NOR` (R262): not-or. -/
def execNor (x y z : Byte) (s : State) : Result := s.writeX x (~~~(s.reg y ||| s.reg z)) 0

/-- `NORI` (R262): not-or, immediate. -/
def execNori (x y z : Byte) (s : State) : Result := s.writeX x (~~~(s.reg y ||| zext8 z)) 0

/-- `XOR` (R263): exclusive or. -/
def execXor (x y z : Byte) (s : State) : Result := s.writeX x (s.reg y ^^^ s.reg z) 0

/-- `XORI` (R263): exclusive or, immediate. -/
def execXori (x y z : Byte) (s : State) : Result := s.writeX x (s.reg y ^^^ zext8 z) 0

/-- `AND` (R264): bitwise and. -/
def execAnd (x y z : Byte) (s : State) : Result := s.writeX x (s.reg y &&& s.reg z) 0

/-- `ANDI` (R264): bitwise and, immediate. -/
def execAndi (x y z : Byte) (s : State) : Result := s.writeX x (s.reg y &&& zext8 z) 0

/-- `ANDN` (R265): and-not. -/
def execAndn (x y z : Byte) (s : State) : Result := s.writeX x (s.reg y &&& ~~~(s.reg z)) 0

/-- `ANDNI` (R265): and-not, immediate. -/
def execAndni (x y z : Byte) (s : State) : Result := s.writeX x (s.reg y &&& ~~~(zext8 z)) 0

/-- `NAND` (R266): not-and. -/
def execNand (x y z : Byte) (s : State) : Result := s.writeX x (~~~(s.reg y &&& s.reg z)) 0

/-- `NANDI` (R266): not-and, immediate. -/
def execNandi (x y z : Byte) (s : State) : Result := s.writeX x (~~~(s.reg y &&& zext8 z)) 0

/-- `NXOR` (R267): not-exclusive-or. -/
def execNxor (x y z : Byte) (s : State) : Result := s.writeX x (~~~(s.reg y ^^^ s.reg z)) 0

/-- `NXORI` (R267): not-exclusive-or, immediate. -/
def execNxori (x y z : Byte) (s : State) : Result := s.writeX x (~~~(s.reg y ^^^ zext8 z)) 0

/-- `SL` (R268): shift left, signed, with overflow. -/
def execSl (x y z : Byte) (s : State) : Result :=
  s.writeX x (shiftLeft (s.reg y) (s.reg z)) (shiftOverflowEvent (s.reg y) (s.reg z))

/-- `SLI` (R268): shift left, signed, with overflow, immediate. -/
def execSli (x y z : Byte) (s : State) : Result :=
  s.writeX x (shiftLeft (s.reg y) (zext8 z)) (shiftOverflowEvent (s.reg y) (zext8 z))

/-- `SLU` (R269): shift left, unsigned. -/
def execSlu (x y z : Byte) (s : State) : Result := s.writeX x (shiftLeft (s.reg y) (s.reg z)) 0

/-- `SLUI` (R269): shift left, unsigned, immediate. -/
def execSlui (x y z : Byte) (s : State) : Result := s.writeX x (shiftLeft (s.reg y) (zext8 z)) 0

/-- `SR` (R270): shift right, sign-filling. -/
def execSr (x y z : Byte) (s : State) : Result := s.writeX x (shiftRightSigned (s.reg y) (s.reg z)) 0

/-- `SRI` (R270): shift right, sign-filling, immediate. -/
def execSri (x y z : Byte) (s : State) : Result := s.writeX x (shiftRightSigned (s.reg y) (zext8 z)) 0

/-- `SRU` (R271): shift right, zero-filling. -/
def execSru (x y z : Byte) (s : State) : Result := s.writeX x (shiftRight (s.reg y) (s.reg z)) 0

/-- `SRUI` (R271): shift right, zero-filling, immediate. -/
def execSrui (x y z : Byte) (s : State) : Result := s.writeX x (shiftRight (s.reg y) (zext8 z)) 0

/-- `BDIF` (R272): byte difference. -/
def execBdif (x y z : Byte) (s : State) : Result := s.writeX x (laneDifference 8 (s.reg y) (s.reg z)) 0

/-- `BDIFI` (R272): byte difference, immediate. -/
def execBdifi (x y z : Byte) (s : State) : Result := s.writeX x (laneDifference 8 (s.reg y) (zext8 z)) 0

/-- `WDIF` (R273): wyde difference. -/
def execWdif (x y z : Byte) (s : State) : Result := s.writeX x (laneDifference 16 (s.reg y) (s.reg z)) 0

/-- `WDIFI` (R273): wyde difference, immediate. -/
def execWdifi (x y z : Byte) (s : State) : Result := s.writeX x (laneDifference 16 (s.reg y) (zext8 z)) 0

/-- `TDIF` (R274): tetra difference. -/
def execTdif (x y z : Byte) (s : State) : Result := s.writeX x (laneDifference 32 (s.reg y) (s.reg z)) 0

/-- `TDIFI` (R274): tetra difference, immediate. -/
def execTdifi (x y z : Byte) (s : State) : Result := s.writeX x (laneDifference 32 (s.reg y) (zext8 z)) 0

/-- `ODIF` (R275): octa difference. -/
def execOdif (x y z : Byte) (s : State) : Result := s.writeX x (laneDifference 64 (s.reg y) (s.reg z)) 0

/-- `ODIFI` (R275): octa difference, immediate. -/
def execOdifi (x y z : Byte) (s : State) : Result := s.writeX x (laneDifference 64 (s.reg y) (zext8 z)) 0

/-- `MUX` (R276): multiplex under rM. -/
def execMux (x y z : Byte) (s : State) : Result := s.writeX x ((s.reg y &&& s.sr.rM) ||| (s.reg z &&& ~~~s.sr.rM)) 0

/-- `MUXI` (R276): multiplex under rM, immediate. -/
def execMuxi (x y z : Byte) (s : State) : Result := s.writeX x ((s.reg y &&& s.sr.rM) ||| (zext8 z &&& ~~~s.sr.rM)) 0

/-- `SADD` (R277): sideways add. -/
def execSadd (x y z : Byte) (s : State) : Result := s.writeX x (sidewaysAdd (s.reg y &&& ~~~(s.reg z))) 0

/-- `SADDI` (R277): sideways add, immediate. -/
def execSaddi (x y z : Byte) (s : State) : Result := s.writeX x (sidewaysAdd (s.reg y &&& ~~~(zext8 z))) 0

/-- `MOR` (R278): Boolean matrix multiply, or. -/
def execMor (x y z : Byte) (s : State) : Result :=
  s.writeX x (matrixProduct (fun a b => a ||| b) (s.reg y) (s.reg z)) 0

/-- `MORI` (R278): Boolean matrix multiply, or, immediate. -/
def execMori (x y z : Byte) (s : State) : Result :=
  s.writeX x (matrixProduct (fun a b => a ||| b) (s.reg y) (zext8 z)) 0

/-- `MXOR` (R279): Boolean matrix multiply, exclusive or. -/
def execMxor (x y z : Byte) (s : State) : Result :=
  s.writeX x (matrixProduct (fun a b => a ^^^ b) (s.reg y) (s.reg z)) 0

/-- `MXORI` (R279): Boolean matrix multiply, exclusive or, immediate. -/
def execMxori (x y z : Byte) (s : State) : Result :=
  s.writeX x (matrixProduct (fun a b => a ^^^ b) (s.reg y) (zext8 z)) 0

end Sys2Proof.Machine
end

