-- ==== Sys2Proof/Machine/System.lean ====
section
/-! DEFINITION. Special registers, `SAVE` and `UNSAVE`, `TRAP`, `TRIP`, `RESUME` and the hints (47_system.md
R470-R495). -/

namespace Sys2Proof.Machine

/-- `GET $X,Z`: the field checks, the value, and the draw that a counter's value takes (R476, 10_state.md R46). -/
def State.getSpecial (x y z : Byte) (s : State) : Result :=
  match specialOf z with
  | some r =>
    if y = 0 then
      s.guardWrite x (((s.setReg x (s.special r)).setDraws (s.draws + drawsTaken r)).advance)
    else s.fails .illegalInstruction
  | none => s.fails .illegalInstruction

/-- `PUT` of `v` to the special register numbered `x`, after the field checks (R477). -/
def State.putNumbered (x y : Byte) (v : Word) (s : State) : Result :=
  match specialOf x with
  | some r => if y = 0 then s.putSpecial r v else s.fails .illegalInstruction
  | none => s.fails .illegalInstruction

/-- `Halt` (R490). -/
def State.trapHalt (z : Byte) (s : State) : Result := .next ((s.setStatus (.halted z)).advance)

/-- Bytes appended to a stream: 1 is standard output, 2 standard error (R491). -/
def Outputs.append (o : Outputs) (handle : Byte) (bs : List Byte) : Outputs :=
  if handle.toNat = 1 then { o with stdOut := o.stdOut ++ bs } else { o with stdErr := o.stdErr ++ bs }

/-- `Fputs` (R492): the string at `$255` to the handle Z, and a draw into `$255`. -/
def State.trapFputs (z : Byte) (s : State) : Result :=
  if z.toNat = 1 ∨ z.toNat = 2 then
    s.guardWrite 255
      ((((s.setReg 255 (Config.fputsResult s.draws)).setOut (s.out.append z s.fputsBytes)).setDraws (s.draws + 1)).advance)
  else s.fails .badHandle

/-- `LDVTS` (R488): no operation. -/
def execLdvts (s : State) : Result := .next s.advance

/-- `LDVTSI` (R488): no operation. -/
def execLdvtsi (s : State) : Result := .next s.advance

/-- `PRELD` (R471): no operation. -/
def execPreld (s : State) : Result := .next s.advance

/-- `PRELDI` (R471): no operation. -/
def execPreldi (s : State) : Result := .next s.advance

/-- `PREGO` (R472): no operation. -/
def execPrego (s : State) : Result := .next s.advance

/-- `PREGOI` (R472): no operation. -/
def execPregoi (s : State) : Result := .next s.advance

/-- `SYNCD` (R487): no operation. -/
def execSyncd (s : State) : Result := .next s.advance

/-- `SYNCDI` (R487): no operation. -/
def execSyncdi (s : State) : Result := .next s.advance

/-- `PREST` (R473): no operation. -/
def execPrest (s : State) : Result := .next s.advance

/-- `PRESTI` (R473): no operation. -/
def execPresti (s : State) : Result := .next s.advance

/-- `SYNCID` (R475): no operation. -/
def execSyncid (s : State) : Result := .next s.advance

/-- `SYNCIDI` (R475): no operation. -/
def execSyncidi (s : State) : Result := .next s.advance

/-- `SYNC` (R486): no operation. -/
def execSync (s : State) : Result := .next s.advance

/-- `SWYM` (R474): no operation. -/
def execSwym (s : State) : Result := .next s.advance

/-- `GET` (R476): read a special register. -/
def execGet (x y z : Byte) (s : State) : Result := s.getSpecial x y z

/-- `PUT` (R477): write a special register. -/
def execPut (x y z : Byte) (s : State) : Result := s.putNumbered x y (s.reg z)

/-- `PUTI` (R477): write a special register, immediate. -/
def execPuti (x y z : Byte) (s : State) : Result := s.putNumbered x y (zext8 z)

/-- `SAVE` (R481): save the context. -/
def execSave (x _y _z : Byte) (s : State) : Result := s.saveContext x

/-- `UNSAVE` (R482): restore a saved context. -/
def execUnsave (_x _y z : Byte) (s : State) : Result := s.unsaveContext (s.reg z &&& ~~~7#64)

/-- `TRAP` (R489): system call, by the service Y with the argument Z. -/
def execTrap (_x y z : Byte) (s : State) : Result :=
  match y.toNat with
  | 0 => s.trapHalt z
  | 7 => s.trapFputs z
  | _ => s.fails .unhandledTrap

/-- `TRIP` (R494): forced trip. -/
def execTrip (x y z : Byte) (s : State) : Result :=
  s.guardWrite 255 (s.trip (encode (.trip x y z)) (s.reg y) (s.reg z))

/-- `RESUME` (R495): return from a trip. -/
def execResume (_x _y z : Byte) (s : State) : Result :=
  if z.toNat = 1 then s.fails .privileged
  else if 2 ≤ z.toNat then s.fails .illegalInstruction
  else s.resume

end Sys2Proof.Machine
end

