-- ==== Sys2Proof/Machine/Wyde.lean ====
section
/-! DEFINITION. The wyde-immediate operations (42_wyde_immediate.md R300-R316): the lane is high (shift 48), medium-high
(32), medium-low (16) or low (0), and `INC` is a full 64-bit add (90_conflicts.md C8). -/

namespace Sys2Proof.Machine

/-- `SETH` (R300): set the high wyde. -/
def execSeth (x : Byte) (yz : Wyde) (s : State) : Result := s.writeX x (wydeAt yz 48) 0

/-- `SETMH` (R301): set the medium-high wyde. -/
def execSetmh (x : Byte) (yz : Wyde) (s : State) : Result := s.writeX x (wydeAt yz 32) 0

/-- `SETML` (R302): set the medium-low wyde. -/
def execSetml (x : Byte) (yz : Wyde) (s : State) : Result := s.writeX x (wydeAt yz 16) 0

/-- `SETL` (R303): set the low wyde. -/
def execSetl (x : Byte) (yz : Wyde) (s : State) : Result := s.writeX x (wydeAt yz 0) 0

/-- `INCH` (R304): add into the high wyde. -/
def execInch (x : Byte) (yz : Wyde) (s : State) : Result := s.writeX x (s.reg x + wydeAt yz 48) 0

/-- `INCMH` (R305): add into the medium-high wyde. -/
def execIncmh (x : Byte) (yz : Wyde) (s : State) : Result := s.writeX x (s.reg x + wydeAt yz 32) 0

/-- `INCML` (R306): add into the medium-low wyde. -/
def execIncml (x : Byte) (yz : Wyde) (s : State) : Result := s.writeX x (s.reg x + wydeAt yz 16) 0

/-- `INCL` (R307): add into the low wyde. -/
def execIncl (x : Byte) (yz : Wyde) (s : State) : Result := s.writeX x (s.reg x + wydeAt yz 0) 0

/-- `ORH` (R308): or into the high wyde. -/
def execOrh (x : Byte) (yz : Wyde) (s : State) : Result := s.writeX x (s.reg x ||| wydeAt yz 48) 0

/-- `ORMH` (R309): or into the medium-high wyde. -/
def execOrmh (x : Byte) (yz : Wyde) (s : State) : Result := s.writeX x (s.reg x ||| wydeAt yz 32) 0

/-- `ORML` (R310): or into the medium-low wyde. -/
def execOrml (x : Byte) (yz : Wyde) (s : State) : Result := s.writeX x (s.reg x ||| wydeAt yz 16) 0

/-- `ORL` (R311): or into the low wyde. -/
def execOrl (x : Byte) (yz : Wyde) (s : State) : Result := s.writeX x (s.reg x ||| wydeAt yz 0) 0

/-- `ANDNH` (R312): clear bits of the high wyde. -/
def execAndnh (x : Byte) (yz : Wyde) (s : State) : Result := s.writeX x (s.reg x &&& ~~~(wydeAt yz 48)) 0

/-- `ANDNMH` (R313): clear bits of the medium-high wyde. -/
def execAndnmh (x : Byte) (yz : Wyde) (s : State) : Result := s.writeX x (s.reg x &&& ~~~(wydeAt yz 32)) 0

/-- `ANDNML` (R314): clear bits of the medium-low wyde. -/
def execAndnml (x : Byte) (yz : Wyde) (s : State) : Result := s.writeX x (s.reg x &&& ~~~(wydeAt yz 16)) 0

/-- `ANDNL` (R315): clear bits of the low wyde. -/
def execAndnl (x : Byte) (yz : Wyde) (s : State) : Result := s.writeX x (s.reg x &&& ~~~(wydeAt yz 0)) 0

end Sys2Proof.Machine
end

