-- ==== Sys2Proof/Machine/Dispatch.lean ====
section
/-! DEFINITION. `exec`: one arm per constructor of `Instr`, in the opcode table's order, each one call of its meaning. -/

namespace Sys2Proof.Machine

/-- What an instruction does, `@` being the state's `pc` (00_scope.md R9). It is the meaning in the status `Running`;
`step` alone looks at the status. -/
def exec (i : Instr) (s : State) : Host.Outcome State Fault Refusal :=
  match i with
  | .trap x y z => Sys2Proof.Machine.execTrap x y z s
  | .fcmp x y z => Sys2Proof.Machine.execFcmp x y z s
  | .funop x y z => Sys2Proof.Machine.execFun x y z s
  | .feql x y z => Sys2Proof.Machine.execFeql x y z s
  | .fadd x y z => Sys2Proof.Machine.execFadd x y z s
  | .fix x y z => Sys2Proof.Machine.execFix x y z s
  | .fsub x y z => Sys2Proof.Machine.execFsub x y z s
  | .fixu x y z => Sys2Proof.Machine.execFixu x y z s
  | .flot x y z => Sys2Proof.Machine.execFlot x y z s
  | .floti x y z => Sys2Proof.Machine.execFloti x y z s
  | .flotu x y z => Sys2Proof.Machine.execFlotu x y z s
  | .flotui x y z => Sys2Proof.Machine.execFlotui x y z s
  | .sflot x y z => Sys2Proof.Machine.execSflot x y z s
  | .sfloti x y z => Sys2Proof.Machine.execSfloti x y z s
  | .sflotu x y z => Sys2Proof.Machine.execSflotu x y z s
  | .sflotui x y z => Sys2Proof.Machine.execSflotui x y z s
  | .fmul x y z => Sys2Proof.Machine.execFmul x y z s
  | .fcmpe x y z => Sys2Proof.Machine.execFcmpe x y z s
  | .fune x y z => Sys2Proof.Machine.execFune x y z s
  | .feqle x y z => Sys2Proof.Machine.execFeqle x y z s
  | .fdiv x y z => Sys2Proof.Machine.execFdiv x y z s
  | .fsqrt x y z => Sys2Proof.Machine.execFsqrt x y z s
  | .frem x y z => Sys2Proof.Machine.execFrem x y z s
  | .fint x y z => Sys2Proof.Machine.execFint x y z s
  | .mul x y z => Sys2Proof.Machine.execMul x y z s
  | .muli x y z => Sys2Proof.Machine.execMuli x y z s
  | .mulu x y z => Sys2Proof.Machine.execMulu x y z s
  | .mului x y z => Sys2Proof.Machine.execMului x y z s
  | .div x y z => Sys2Proof.Machine.execDiv x y z s
  | .divi x y z => Sys2Proof.Machine.execDivi x y z s
  | .divu x y z => Sys2Proof.Machine.execDivu x y z s
  | .divui x y z => Sys2Proof.Machine.execDivui x y z s
  | .add x y z => Sys2Proof.Machine.execAdd x y z s
  | .addi x y z => Sys2Proof.Machine.execAddi x y z s
  | .addu x y z => Sys2Proof.Machine.execAddu x y z s
  | .addui x y z => Sys2Proof.Machine.execAddui x y z s
  | .sub x y z => Sys2Proof.Machine.execSub x y z s
  | .subi x y z => Sys2Proof.Machine.execSubi x y z s
  | .subu x y z => Sys2Proof.Machine.execSubu x y z s
  | .subui x y z => Sys2Proof.Machine.execSubui x y z s
  | .twoAddu x y z => Sys2Proof.Machine.execTwoAddu x y z s
  | .twoAddui x y z => Sys2Proof.Machine.execTwoAddui x y z s
  | .fourAddu x y z => Sys2Proof.Machine.execFourAddu x y z s
  | .fourAddui x y z => Sys2Proof.Machine.execFourAddui x y z s
  | .eightAddu x y z => Sys2Proof.Machine.execEightAddu x y z s
  | .eightAddui x y z => Sys2Proof.Machine.execEightAddui x y z s
  | .sixteenAddu x y z => Sys2Proof.Machine.execSixteenAddu x y z s
  | .sixteenAddui x y z => Sys2Proof.Machine.execSixteenAddui x y z s
  | .cmp x y z => Sys2Proof.Machine.execCmp x y z s
  | .cmpi x y z => Sys2Proof.Machine.execCmpi x y z s
  | .cmpu x y z => Sys2Proof.Machine.execCmpu x y z s
  | .cmpui x y z => Sys2Proof.Machine.execCmpui x y z s
  | .neg x y z => Sys2Proof.Machine.execNeg x y z s
  | .negi x y z => Sys2Proof.Machine.execNegi x y z s
  | .negu x y z => Sys2Proof.Machine.execNegu x y z s
  | .negui x y z => Sys2Proof.Machine.execNegui x y z s
  | .sl x y z => Sys2Proof.Machine.execSl x y z s
  | .sli x y z => Sys2Proof.Machine.execSli x y z s
  | .slu x y z => Sys2Proof.Machine.execSlu x y z s
  | .slui x y z => Sys2Proof.Machine.execSlui x y z s
  | .sr x y z => Sys2Proof.Machine.execSr x y z s
  | .sri x y z => Sys2Proof.Machine.execSri x y z s
  | .sru x y z => Sys2Proof.Machine.execSru x y z s
  | .srui x y z => Sys2Proof.Machine.execSrui x y z s
  | .bn x yz => Sys2Proof.Machine.execBn x yz s
  | .bnb x yz => Sys2Proof.Machine.execBnb x yz s
  | .bz x yz => Sys2Proof.Machine.execBz x yz s
  | .bzb x yz => Sys2Proof.Machine.execBzb x yz s
  | .bp x yz => Sys2Proof.Machine.execBp x yz s
  | .bpb x yz => Sys2Proof.Machine.execBpb x yz s
  | .bod x yz => Sys2Proof.Machine.execBod x yz s
  | .bodb x yz => Sys2Proof.Machine.execBodb x yz s
  | .bnn x yz => Sys2Proof.Machine.execBnn x yz s
  | .bnnb x yz => Sys2Proof.Machine.execBnnb x yz s
  | .bnz x yz => Sys2Proof.Machine.execBnz x yz s
  | .bnzb x yz => Sys2Proof.Machine.execBnzb x yz s
  | .bnp x yz => Sys2Proof.Machine.execBnp x yz s
  | .bnpb x yz => Sys2Proof.Machine.execBnpb x yz s
  | .bev x yz => Sys2Proof.Machine.execBev x yz s
  | .bevb x yz => Sys2Proof.Machine.execBevb x yz s
  | .pbn x yz => Sys2Proof.Machine.execPbn x yz s
  | .pbnb x yz => Sys2Proof.Machine.execPbnb x yz s
  | .pbz x yz => Sys2Proof.Machine.execPbz x yz s
  | .pbzb x yz => Sys2Proof.Machine.execPbzb x yz s
  | .pbp x yz => Sys2Proof.Machine.execPbp x yz s
  | .pbpb x yz => Sys2Proof.Machine.execPbpb x yz s
  | .pbod x yz => Sys2Proof.Machine.execPbod x yz s
  | .pbodb x yz => Sys2Proof.Machine.execPbodb x yz s
  | .pbnn x yz => Sys2Proof.Machine.execPbnn x yz s
  | .pbnnb x yz => Sys2Proof.Machine.execPbnnb x yz s
  | .pbnz x yz => Sys2Proof.Machine.execPbnz x yz s
  | .pbnzb x yz => Sys2Proof.Machine.execPbnzb x yz s
  | .pbnp x yz => Sys2Proof.Machine.execPbnp x yz s
  | .pbnpb x yz => Sys2Proof.Machine.execPbnpb x yz s
  | .pbev x yz => Sys2Proof.Machine.execPbev x yz s
  | .pbevb x yz => Sys2Proof.Machine.execPbevb x yz s
  | .csn x y z => Sys2Proof.Machine.execCsn x y z s
  | .csni x y z => Sys2Proof.Machine.execCsni x y z s
  | .csz x y z => Sys2Proof.Machine.execCsz x y z s
  | .cszi x y z => Sys2Proof.Machine.execCszi x y z s
  | .csp x y z => Sys2Proof.Machine.execCsp x y z s
  | .cspi x y z => Sys2Proof.Machine.execCspi x y z s
  | .csod x y z => Sys2Proof.Machine.execCsod x y z s
  | .csodi x y z => Sys2Proof.Machine.execCsodi x y z s
  | .csnn x y z => Sys2Proof.Machine.execCsnn x y z s
  | .csnni x y z => Sys2Proof.Machine.execCsnni x y z s
  | .csnz x y z => Sys2Proof.Machine.execCsnz x y z s
  | .csnzi x y z => Sys2Proof.Machine.execCsnzi x y z s
  | .csnp x y z => Sys2Proof.Machine.execCsnp x y z s
  | .csnpi x y z => Sys2Proof.Machine.execCsnpi x y z s
  | .csev x y z => Sys2Proof.Machine.execCsev x y z s
  | .csevi x y z => Sys2Proof.Machine.execCsevi x y z s
  | .zsn x y z => Sys2Proof.Machine.execZsn x y z s
  | .zsni x y z => Sys2Proof.Machine.execZsni x y z s
  | .zsz x y z => Sys2Proof.Machine.execZsz x y z s
  | .zszi x y z => Sys2Proof.Machine.execZszi x y z s
  | .zsp x y z => Sys2Proof.Machine.execZsp x y z s
  | .zspi x y z => Sys2Proof.Machine.execZspi x y z s
  | .zsod x y z => Sys2Proof.Machine.execZsod x y z s
  | .zsodi x y z => Sys2Proof.Machine.execZsodi x y z s
  | .zsnn x y z => Sys2Proof.Machine.execZsnn x y z s
  | .zsnni x y z => Sys2Proof.Machine.execZsnni x y z s
  | .zsnz x y z => Sys2Proof.Machine.execZsnz x y z s
  | .zsnzi x y z => Sys2Proof.Machine.execZsnzi x y z s
  | .zsnp x y z => Sys2Proof.Machine.execZsnp x y z s
  | .zsnpi x y z => Sys2Proof.Machine.execZsnpi x y z s
  | .zsev x y z => Sys2Proof.Machine.execZsev x y z s
  | .zsevi x y z => Sys2Proof.Machine.execZsevi x y z s
  | .ldb x y z => Sys2Proof.Machine.execLdb x y z s
  | .ldbi x y z => Sys2Proof.Machine.execLdbi x y z s
  | .ldbu x y z => Sys2Proof.Machine.execLdbu x y z s
  | .ldbui x y z => Sys2Proof.Machine.execLdbui x y z s
  | .ldw x y z => Sys2Proof.Machine.execLdw x y z s
  | .ldwi x y z => Sys2Proof.Machine.execLdwi x y z s
  | .ldwu x y z => Sys2Proof.Machine.execLdwu x y z s
  | .ldwui x y z => Sys2Proof.Machine.execLdwui x y z s
  | .ldt x y z => Sys2Proof.Machine.execLdt x y z s
  | .ldti x y z => Sys2Proof.Machine.execLdti x y z s
  | .ldtu x y z => Sys2Proof.Machine.execLdtu x y z s
  | .ldtui x y z => Sys2Proof.Machine.execLdtui x y z s
  | .ldo x y z => Sys2Proof.Machine.execLdo x y z s
  | .ldoi x y z => Sys2Proof.Machine.execLdoi x y z s
  | .ldou x y z => Sys2Proof.Machine.execLdou x y z s
  | .ldoui x y z => Sys2Proof.Machine.execLdoui x y z s
  | .ldsf x y z => Sys2Proof.Machine.execLdsf x y z s
  | .ldsfi x y z => Sys2Proof.Machine.execLdsfi x y z s
  | .ldht x y z => Sys2Proof.Machine.execLdht x y z s
  | .ldhti x y z => Sys2Proof.Machine.execLdhti x y z s
  | .cswap x y z => Sys2Proof.Machine.execCswap x y z s
  | .cswapi x y z => Sys2Proof.Machine.execCswapi x y z s
  | .ldunc x y z => Sys2Proof.Machine.execLdunc x y z s
  | .ldunci x y z => Sys2Proof.Machine.execLdunci x y z s
  | .ldvts => Sys2Proof.Machine.execLdvts s
  | .ldvtsi => Sys2Proof.Machine.execLdvtsi s
  | .preld => Sys2Proof.Machine.execPreld s
  | .preldi => Sys2Proof.Machine.execPreldi s
  | .prego => Sys2Proof.Machine.execPrego s
  | .pregoi => Sys2Proof.Machine.execPregoi s
  | .go x y z => Sys2Proof.Machine.execGo x y z s
  | .goi x y z => Sys2Proof.Machine.execGoi x y z s
  | .stb x y z => Sys2Proof.Machine.execStb x y z s
  | .stbi x y z => Sys2Proof.Machine.execStbi x y z s
  | .stbu x y z => Sys2Proof.Machine.execStbu x y z s
  | .stbui x y z => Sys2Proof.Machine.execStbui x y z s
  | .stw x y z => Sys2Proof.Machine.execStw x y z s
  | .stwi x y z => Sys2Proof.Machine.execStwi x y z s
  | .stwu x y z => Sys2Proof.Machine.execStwu x y z s
  | .stwui x y z => Sys2Proof.Machine.execStwui x y z s
  | .stt x y z => Sys2Proof.Machine.execStt x y z s
  | .stti x y z => Sys2Proof.Machine.execStti x y z s
  | .sttu x y z => Sys2Proof.Machine.execSttu x y z s
  | .sttui x y z => Sys2Proof.Machine.execSttui x y z s
  | .sto x y z => Sys2Proof.Machine.execSto x y z s
  | .stoi x y z => Sys2Proof.Machine.execStoi x y z s
  | .stou x y z => Sys2Proof.Machine.execStou x y z s
  | .stoui x y z => Sys2Proof.Machine.execStoui x y z s
  | .stsf x y z => Sys2Proof.Machine.execStsf x y z s
  | .stsfi x y z => Sys2Proof.Machine.execStsfi x y z s
  | .stht x y z => Sys2Proof.Machine.execStht x y z s
  | .sthti x y z => Sys2Proof.Machine.execSthti x y z s
  | .stco x y z => Sys2Proof.Machine.execStco x y z s
  | .stcoi x y z => Sys2Proof.Machine.execStcoi x y z s
  | .stunc x y z => Sys2Proof.Machine.execStunc x y z s
  | .stunci x y z => Sys2Proof.Machine.execStunci x y z s
  | .syncd => Sys2Proof.Machine.execSyncd s
  | .syncdi => Sys2Proof.Machine.execSyncdi s
  | .prest => Sys2Proof.Machine.execPrest s
  | .presti => Sys2Proof.Machine.execPresti s
  | .syncid => Sys2Proof.Machine.execSyncid s
  | .syncidi => Sys2Proof.Machine.execSyncidi s
  | .pushgo x y z => Sys2Proof.Machine.execPushgo x y z s
  | .pushgoi x y z => Sys2Proof.Machine.execPushgoi x y z s
  | .or x y z => Sys2Proof.Machine.execOr x y z s
  | .ori x y z => Sys2Proof.Machine.execOri x y z s
  | .orn x y z => Sys2Proof.Machine.execOrn x y z s
  | .orni x y z => Sys2Proof.Machine.execOrni x y z s
  | .nor x y z => Sys2Proof.Machine.execNor x y z s
  | .nori x y z => Sys2Proof.Machine.execNori x y z s
  | .xor x y z => Sys2Proof.Machine.execXor x y z s
  | .xori x y z => Sys2Proof.Machine.execXori x y z s
  | .and x y z => Sys2Proof.Machine.execAnd x y z s
  | .andi x y z => Sys2Proof.Machine.execAndi x y z s
  | .andn x y z => Sys2Proof.Machine.execAndn x y z s
  | .andni x y z => Sys2Proof.Machine.execAndni x y z s
  | .nand x y z => Sys2Proof.Machine.execNand x y z s
  | .nandi x y z => Sys2Proof.Machine.execNandi x y z s
  | .nxor x y z => Sys2Proof.Machine.execNxor x y z s
  | .nxori x y z => Sys2Proof.Machine.execNxori x y z s
  | .bdif x y z => Sys2Proof.Machine.execBdif x y z s
  | .bdifi x y z => Sys2Proof.Machine.execBdifi x y z s
  | .wdif x y z => Sys2Proof.Machine.execWdif x y z s
  | .wdifi x y z => Sys2Proof.Machine.execWdifi x y z s
  | .tdif x y z => Sys2Proof.Machine.execTdif x y z s
  | .tdifi x y z => Sys2Proof.Machine.execTdifi x y z s
  | .odif x y z => Sys2Proof.Machine.execOdif x y z s
  | .odifi x y z => Sys2Proof.Machine.execOdifi x y z s
  | .mux x y z => Sys2Proof.Machine.execMux x y z s
  | .muxi x y z => Sys2Proof.Machine.execMuxi x y z s
  | .sadd x y z => Sys2Proof.Machine.execSadd x y z s
  | .saddi x y z => Sys2Proof.Machine.execSaddi x y z s
  | .mor x y z => Sys2Proof.Machine.execMor x y z s
  | .mori x y z => Sys2Proof.Machine.execMori x y z s
  | .mxor x y z => Sys2Proof.Machine.execMxor x y z s
  | .mxori x y z => Sys2Proof.Machine.execMxori x y z s
  | .seth x yz => Sys2Proof.Machine.execSeth x yz s
  | .setmh x yz => Sys2Proof.Machine.execSetmh x yz s
  | .setml x yz => Sys2Proof.Machine.execSetml x yz s
  | .setl x yz => Sys2Proof.Machine.execSetl x yz s
  | .inch x yz => Sys2Proof.Machine.execInch x yz s
  | .incmh x yz => Sys2Proof.Machine.execIncmh x yz s
  | .incml x yz => Sys2Proof.Machine.execIncml x yz s
  | .incl x yz => Sys2Proof.Machine.execIncl x yz s
  | .orh x yz => Sys2Proof.Machine.execOrh x yz s
  | .ormh x yz => Sys2Proof.Machine.execOrmh x yz s
  | .orml x yz => Sys2Proof.Machine.execOrml x yz s
  | .orl x yz => Sys2Proof.Machine.execOrl x yz s
  | .andnh x yz => Sys2Proof.Machine.execAndnh x yz s
  | .andnmh x yz => Sys2Proof.Machine.execAndnmh x yz s
  | .andnml x yz => Sys2Proof.Machine.execAndnml x yz s
  | .andnl x yz => Sys2Proof.Machine.execAndnl x yz s
  | .jmp xyz => Sys2Proof.Machine.execJmp xyz s
  | .jmpb xyz => Sys2Proof.Machine.execJmpb xyz s
  | .pushj x yz => Sys2Proof.Machine.execPushj x yz s
  | .pushjb x yz => Sys2Proof.Machine.execPushjb x yz s
  | .geta x yz => Sys2Proof.Machine.execGeta x yz s
  | .getab x yz => Sys2Proof.Machine.execGetab x yz s
  | .put x y z => Sys2Proof.Machine.execPut x y z s
  | .puti x y z => Sys2Proof.Machine.execPuti x y z s
  | .pop x yz => Sys2Proof.Machine.execPop x yz s
  | .resume x y z => Sys2Proof.Machine.execResume x y z s
  | .save x y z => Sys2Proof.Machine.execSave x y z s
  | .unsave x y z => Sys2Proof.Machine.execUnsave x y z s
  | .sync => Sys2Proof.Machine.execSync s
  | .swym => Sys2Proof.Machine.execSwym s
  | .get x y z => Sys2Proof.Machine.execGet x y z s
  | .trip x y z => Sys2Proof.Machine.execTrip x y z s

end Sys2Proof.Machine
end

