-- ==== Sys2Proof/Machine/Step.lean ====
section
/-! DEFINITION. One step: fetch, decode, execute (10_state.md R21, 20_memory.md R90, 30_encoding.md R129, R133), and the
placing of one instruction word where the next step fetches. -/

namespace Sys2Proof.Machine

/-- The instruction `i` in a running machine: an opcode outside `IMPLEMENTED` raises `Unimplemented` before any other
check (R133, 60_exceptions.md R512). -/
def execImplemented (i : Instr) (s : State) : Result :=
  if s.implements i then exec i s else s.fails .unimplemented

/-- One step. In a terminal status none is defined (60_exceptions.md R508). -/
def step (s : State) : Host.Outcome State Fault Refusal :=
  match s.status with
  | .running => execImplemented (decode s.fetch) s
  | .halted c => .fault (.afterHalt c)
  | .faulted r => .fault (.afterFault r)

/-- `s` with the instruction whose bits are `w` stored at `pc`, most significant byte first, where `step` fetches it.
It stands for the load of a program from outside the machine (assumption 6). An instruction is 32 bits, so the bits of
`w` from 32 up are not stored. -/
def State.withFetchWord (s : State) (_nbits w : Nat) : State :=
  s.setMem (s.mem.store 4 s.pc (BitVec.ofNat 64 w))

end Sys2Proof.Machine
end

