-- ==== Sys2Proof/Machine/Load.lean ====
section
/-! DEFINITION. The loaded image and the state it starts a run in (70_reset_and_hazards.md R541-R551). A program comes to
run from outside the machine: the image is the block's input (assumption 6). -/

namespace Sys2Proof.Machine

/-- A loaded image (R542): its segments in list order, the entry point, and the values of the `GREG` registers in their
order of allocation, `$255` first (R544, 30_encoding.md R149). -/
structure Image where
  segments : List (Word × List Byte) := []
  entry : Word := Config.defaultEntry
  gregs : List Word := []
  deriving DecidableEq, Repr

/-- Why the loader refuses an image: no run starts. -/
inductive LoadError where
  /-- The entry point is not a multiple of 4 (R541). Safe: no state of the machine results. -/
  | badEntry
  /-- More than 224 `GREG` registers (R544). Safe: no state of the machine results. -/
  | tooManyGlobals
  deriving DecidableEq, Repr

/-- The bytes of a segment written from the virtual address `a` upward, each address translated (R543). -/
def Memory.loadBytes (m : Memory) (a : Word) : List Byte → Memory
  | [] => m
  | b :: bs => (m.write (effective 1 a) b).loadBytes (a + 1) bs

/-- Every segment in list order, so that a later one's bytes remain where two overlap (R543, R551). -/
def Memory.loadSegments (m : Memory) : List (Word × List Byte) → Memory
  | [] => m
  | (a, bs) :: rest => (m.loadBytes a bs).loadSegments rest

/-- The initial globals, `$G` first: the `GREG` values from `$255` downward, or `$255` = 0 alone when there is none; so
`INIT_RG` is `min(255, 256 - k)` (R544). -/
def initialGlobals (gregs : List Word) : List Word := if gregs.isEmpty then [0] else gregs.reverse

/-- The state in which a run of the image starts (R541-R548). -/
def load (p : Params) (img : Image) : Except LoadError State :=
  if img.entry.toNat % 4 ≠ 0 then .error .badEntry
  else if 224 < img.gregs.length then .error .tooManyGlobals
  else .ok
    ⟨p, .running, img.entry, [], initialGlobals img.gregs, [], Specials.reset,
      Memory.loadSegments [] img.segments, ⟨[], []⟩, 0⟩

end Sys2Proof.Machine
end

