-- ==== Sys2Proof/Machine/Mmixal.lean ====
section
/-! DEFINITION. How MMIXAL spells the words the block executes, as far as it decides which words they are
(30_encoding.md R138-R149): register or immediate form, relative operands, pseudo-instructions, operand names, data
directives. Text itself is outside the block (00_scope.md R4, R5). -/

namespace Sys2Proof.Machine

/-! ### Operand forms -/

/-- The third operand of a statement. -/
inductive ThirdOperand where
  | register (k : Byte)
  | immediate (v : Nat)
  deriving DecidableEq, Repr

/-- The register form for `$N`, the immediate form for an immediate, which must be 0..255 (R138, R144). -/
def chooseForm (regForm immForm : Byte → Instr) (op : ThirdOperand) : Option Instr :=
  match op with
  | .register k => some (regForm k)
  | .immediate v => if v ≤ 255 then some (immForm (BitVec.ofNat 8 v)) else none

/-- `k = (target - @)/4` of a relative operand; none when the target is no multiple of 4 away (R139). DESIGN CHOICE: R139
writes a plain difference; here it is taken modulo 2^64 and read as signed, so that a target across the wrap of the
address space gets a short offset, with which the `wrap64` of R124 and R125 does reach it (assumption 15). -/
def relativeOffset (pc target : Word) : Option Int :=
  let d := (target - pc).toInt
  if d % 4 = 0 then some (d / 4) else none

/-- A branch, `PUSHJ` or `GETA` to `target`: the even opcode with `YZ = k` for `k >= 0`, the odd one with
`YZ = k + 65536` for `k < 0` (R139). -/
def relative16 (forwardForm backwardForm : Wyde → Instr) (pc target : Word) : Option Instr :=
  match relativeOffset pc target with
  | some k =>
    if 0 ≤ k ∧ k < 65536 then some (forwardForm (BitVec.ofInt 16 k))
    else if -65536 ≤ k ∧ k < 0 then some (backwardForm (BitVec.ofInt 16 (k + 65536)))
    else none
  | none => none

/-- `JMP` to `target` (R139, R125). -/
def relative24 (pc target : Word) : Option Instr :=
  match relativeOffset pc target with
  | some k =>
    if 0 ≤ k ∧ k < 16777216 then some (.jmp (BitVec.ofInt 24 k))
    else if -16777216 ≤ k ∧ k < 0 then some (.jmpb (BitVec.ofInt 24 (k + 16777216)))
    else none
  | none => none

/-! ### Pseudo-instructions -/

/-- `SET $X,$Y` (R140). -/
def pseudoSet (x y : Byte) : Instr := .ori x y 0#8

/-- `SETI $X,v`, and `SET $X,v` (R141, R142): always four tetras. -/
def pseudoSeti (x : Byte) (v : Word) : List Instr :=
  [.setl x (v.extractLsb' 0 16), .incml x (v.extractLsb' 16 16), .incmh x (v.extractLsb' 32 16),
    .inch x (v.extractLsb' 48 16)]

/-- `LDA $X,$Y,$Z` and `LDA $X,$Y,Z` (R143). -/
def pseudoLda (x y : Byte) (op : ThirdOperand) : Option Instr := chooseForm (.addu x y) (.addui x y) op

/-- The immediate form that a two-operand load, store or `LDA` of `label` becomes, `$b` holding `base`; none unless
`0 <= label - base <= 255` (R145). DESIGN CHOICE: the difference is taken modulo 2^64 (assumption 15). -/
def basePlusOffset (immForm : Byte → Byte → Instr) (b : Byte) (base label : Word) : Option Instr :=
  if (label - base).toNat ≤ 255 then some (immForm b ((label - base).setWidth 8)) else none

/-! ### Names -/

/-- The field that names a rounding mode: `ROUND_OFF` 1, `ROUND_UP` 2, `ROUND_DOWN` 3, `ROUND_NEAR` 4 (R147). -/
def roundingOperand (m : Rounding) : Byte :=
  match m with
  | .off => 1
  | .up => 2
  | .down => 3
  | .near => 4

/-- The special-register name of an operand (R146). -/
def specialName (r : SpecialReg) : String :=
  match r with
  | .rB => "rB" | .rD => "rD" | .rE => "rE" | .rH => "rH" | .rJ => "rJ" | .rM => "rM" | .rR => "rR" | .rBB => "rBB"
  | .rC => "rC" | .rN => "rN" | .rO => "rO" | .rS => "rS" | .rI => "rI" | .rT => "rT" | .rTT => "rTT" | .rK => "rK"
  | .rQ => "rQ" | .rU => "rU" | .rV => "rV" | .rG => "rG" | .rL => "rL" | .rA => "rA" | .rF => "rF" | .rP => "rP"
  | .rW => "rW" | .rX => "rX" | .rY => "rY" | .rZ => "rZ" | .rWW => "rWW" | .rXX => "rXX" | .rYY => "rYY"
  | .rZZ => "rZZ"

/-- The predefined constants (R148). -/
def predefined : List (String × Word) :=
  [("Halt", 0), ("Fputs", 7), ("StdOut", 1), ("StdErr", 2), ("Data_Segment", 0x2000000000000000#64)]

/-! ### Directives (R149) -/

/-- The bytes that `BYTE`, `WYDE`, `TETRA` and `OCTA` (`n` = 1, 2, 4, 8) emit for a value, the most significant first. -/
def dataBytes (n : Nat) (v : Word) : List Byte := (List.range n).map fun i => v.extractLsb' (8 * (n - 1 - i)) 8

/-- The register that the `i`-th `GREG` allocates, from `$255` downward (90_conflicts.md C10). -/
def gregRegister (i : Nat) : Byte := BitVec.ofNat 8 (255 - i)

end Sys2Proof.Machine
end

