-- ==== Sys2Proof/Safety.lean ====
section
/-! DEFINITION. What counts as a legal state and a safe run, and the terms in which the statements say what an
instruction does: every one of them speaks of what can be observed (a register read, a byte read, a special register),
not of the record updates of the meanings. -/

namespace Sys2Proof.Machine

/-! ### Legal states -/

/-- `S` is a sequence of complete segments: k caller registers, then the hole k (45_control_transfer.md R403). -/
inductive CallStack : List Word → Prop where
  | empty : CallStack []
  | call (below caller : List Word) : CallStack below → caller.length < 256 →
      CallStack (below ++ caller ++ [BitVec.ofNat 64 caller.length])

/-- The invariant of the machine. -/
structure State.Inv (s : State) : Prop where
  /-- The memory is in its canonical form. -/
  memory : s.mem.wf
  /-- `pc` is a multiple of 4 (10_state.md R28). -/
  aligned : s.pc.toNat % 4 = 0
  /-- `L <= G` (R23). -/
  locals : s.L ≤ s.G
  /-- `32 <= G <= 255` (R23). -/
  globals : 32 ≤ s.G ∧ s.G ≤ 255
  /-- rA bits 63:18 are 0 (R41). -/
  status : s.sr.rA.toNat < 2 ^ 18
  /-- `S` is a sequence of complete segments. -/
  calls : CallStack s.stack
  /-- `|S| + L` is within `RING_LIMIT` (R33). -/
  ring : s.ringAllows s.stack.length s.L = true

/-! ### Runs -/

/-- The exit code the host sees (60_exceptions.md R509); none while the run goes on. -/
def exitCode (st : Status) : Option Byte :=
  match st with
  | .running => none
  | .halted c => some c
  | .faulted _ => some 1

/-- `t` is reached from `s` by steps. -/
inductive Reaches : State → State → Prop where
  | refl (s : State) : Reaches s s
  | step (s t u : State) : Machine.step s = .next t → Reaches t u → Reaches s u

/-- A run from `s` is safe when no state it reaches is faulted. -/
def SafeRun (s : State) : Prop := ∀ t, Reaches s t → ∀ r, t.status ≠ .faulted r

/-- A list of instructions executed one after the other. -/
def execAll : List Instr → State → Result
  | [], s => .next s
  | i :: is, s =>
    match exec i s with
    | .next t => execAll is t
    | .fault f => .fault f
    | .refused r => .refused r

/-! ### What an instruction leaves alone -/

/-- Every register reads as before, and rL and rG are as before. -/
def KeptRegs (s t : State) : Prop := (∀ k, t.reg k = s.reg k) ∧ t.L = s.L ∧ t.G = s.G

/-- Every byte of memory reads as before. -/
def KeptMem (s t : State) : Prop := ∀ a, t.mem.read a = s.mem.read a

/-- The executor state, the register stack, the output and the parameters are as before. -/
def KeptRest (s t : State) : Prop :=
  t.status = s.status ∧ t.stack = s.stack ∧ t.out = s.out ∧ t.params = s.params

/-- The special registers with the event bits `ev` set in rA. -/
def State.withEvents (s : State) (ev : Byte) : Specials := { s.sr with rA := s.sr.rA ||| ev.setWidth 64 }

/-! ### What an instruction does -/

/-- `$x` reads `v` and every other register as before; a marginal `$x` has become local (10_state.md R25). -/
def WroteReg (s : State) (x : Byte) (v : Word) (t : State) : Prop :=
  t.reg x = v ∧ (∀ k, k ≠ x → t.reg k = s.reg k) ∧ t.L = (if s.marginal x then x.toNat + 1 else s.L) ∧ t.G = s.G

/-- The result `r` is the next state in which `$x` holds `v`, the stored special registers are `sr`, `pc` has moved to
the next tetra, and nothing else has changed. -/
def Computes (s : State) (x : Byte) (v : Word) (sr : Specials) (r : Result) : Prop :=
  ∃ t, r = .next t ∧ WroteReg s x v t ∧ t.sr = sr ∧ t.pc = s.pc + 4 ∧ KeptMem s t ∧ KeptRest s t ∧ t.draws = s.draws

/-- The bytes from `effective n a` upward are the low `n` bytes of `v`, the most significant first, and every other byte
of memory reads as before. -/
def WroteMem (s : State) (n : Nat) (a v : Word) (t : State) : Prop :=
  (∀ i, i < n → t.mem.read (effective n a + i) = v.extractLsb' (8 * (n - 1 - i)) 8) ∧
  ∀ b, b < effective n a ∨ effective n a + n ≤ b → t.mem.read b = s.mem.read b

/-- The result `r` is the next state in which the `n` bytes at `a` are those of `v`, the events `ev` are set, `pc` has
moved to the next tetra, and nothing else has changed. -/
def Stores (s : State) (n : Nat) (a v : Word) (ev : Byte) (r : Result) : Prop :=
  ∃ t, r = .next t ∧ WroteMem s n a v t ∧ t.sr = s.withEvents ev ∧ t.pc = s.pc + 4 ∧ KeptRegs s t ∧ KeptRest s t ∧
    t.draws = s.draws

/-- The result `r` is the next state in which `pc` is `target`, and nothing else has changed. -/
def GoesTo (s : State) (target : Word) (r : Result) : Prop :=
  ∃ t, r = .next t ∧ t.pc = target ∧ t.sr = s.sr ∧ KeptRegs s t ∧ KeptMem s t ∧ KeptRest s t ∧ t.draws = s.draws

/-- The result `r` is the next state that `raise Fault(f)` leaves (60_exceptions.md R506, R507): the status, and for
three reasons the I bit of rA. -/
def Faults (s : State) (f : FaultReason) (r : Result) : Prop :=
  ∃ t, r = .next t ∧ t.status = .faulted f ∧
    t.sr = (if f = .illegalInstruction ∨ f = .unimplemented ∨ f = .privileged then s.withEvents 0x10#8 else s.sr) ∧
    t.pc = s.pc ∧ KeptRegs s t ∧ KeptMem s t ∧ t.stack = s.stack ∧ t.out = s.out ∧ t.params = s.params ∧
    t.draws = s.draws

/-! ### Pairs of a register form and an immediate form (30_encoding.md R123)

`P s x y z v sr` relates the state before, the field X, the two operands, the value left in `$X` and the stored special
registers after. Both forms complete whenever `$X` may be written (10_state.md R33). -/

/-- Both forms leave in `$X` a value, and special registers, that satisfy `P`; the operands are `$Y`, and `$Z` or the
field Z. -/
def PairDoes (regForm immForm : Byte → Byte → Byte → Instr)
    (P : State → Byte → Word → Word → Word → Specials → Prop) : Prop :=
  ∀ (s : State) (x y z : Byte), s.roomFor x = true →
    (∃ v sr, Computes s x v sr (exec (regForm x y z) s) ∧ P s x (s.reg y) (s.reg z) v sr) ∧
    (∃ v sr, Computes s x v sr (exec (immForm x y z) s) ∧ P s x (s.reg y) (z.setWidth 64) v sr)

/-- The same for `NEG` and `NEGU`, whose first operand is the field Y itself. -/
def NegPairDoes (regForm immForm : Byte → Byte → Byte → Instr)
    (P : State → Word → Word → Word → Specials → Prop) : Prop :=
  ∀ (s : State) (x y z : Byte), s.roomFor x = true →
    (∃ v sr, Computes s x v sr (exec (regForm x y z) s) ∧ P s (y.setWidth 64) (s.reg z) v sr) ∧
    (∃ v sr, Computes s x v sr (exec (immForm x y z) s) ∧ P s (y.setWidth 64) (z.setWidth 64) v sr)

/-- The same for an instruction of format RRR that has no immediate form. -/
def RegsDo (form : Byte → Byte → Byte → Instr) (P : State → Word → Word → Word → Specials → Prop) : Prop :=
  ∀ (s : State) (x y z : Byte), s.roomFor x = true →
    ∃ v sr, Computes s x v sr (exec (form x y z) s) ∧ P s (s.reg y) (s.reg z) v sr

/-- The rounding mode that a legal field Y selects (30_encoding.md R127). -/
def ModeOfField (s : State) (y : Byte) (mode : Rounding) : Prop :=
  y = 0#8 ∧ mode = s.modeRA ∨ y = 1#8 ∧ mode = .off ∨ y = 2#8 ∧ mode = .up ∨ y = 3#8 ∧ mode = .down ∨
    y = 4#8 ∧ mode = .near

/-- The same for an instruction whose field Y is a rounding mode: it completes for every legal one. -/
def RoundedDoes (form : Byte → Byte → Byte → Instr) (operand : State → Byte → Word)
    (P : State → Rounding → Word → Word → Specials → Prop) : Prop :=
  ∀ (s : State) (x y z : Byte) (mode : Rounding), s.roomFor x = true → ModeOfField s y mode →
    ∃ v sr, Computes s x v sr (exec (form x y z) s) ∧ P s mode (operand s z) v sr

/-- A wyde immediate instruction leaves `f old w` in `$X`, where `old` is `$X` before. -/
def WydeDoes (form : Byte → Wyde → Instr) (f : Word → Wyde → Word) : Prop :=
  ∀ (s : State) (x : Byte) (w : Wyde), s.roomFor x = true → Computes s x (f (s.reg x) w) s.sr (exec (form x w) s)

/-- A store of `n` bytes of the datum `data s x`, setting V when `check` is on and the datum, as a signed number, does
not fit in `n` bytes (43_load_store.md R333, R335, R337). -/
def StorePair (regForm immForm : Byte → Byte → Byte → Instr) (n : Nat) (data : State → Byte → Word) (check : Bool) :
    Prop :=
  ∀ (s : State) (x y z : Byte), s.mem.wf →
    let ev (v : Word) : Byte :=
      if check = true ∧ (v.toInt < -2 ^ (8 * n - 1) ∨ 2 ^ (8 * n - 1) ≤ v.toInt) then 0x40#8 else 0#8
    Stores s n (s.reg y + s.reg z) (data s x) (ev (data s x)) (exec (regForm x y z) s) ∧
    Stores s n (s.reg y + z.setWidth 64) (data s x) (ev (data s x)) (exec (immForm x y z) s)

/-- A conditional branch with its backward twin: `4 * k` is added to `@` when the condition holds of `$X`, with
`k = u(YZ)` forward and `k = u(YZ) - 65536` backward (30_encoding.md R124). -/
def BranchPair (forwardForm backwardForm : Byte → Wyde → Instr) (cond : Word → Prop) : Prop :=
  ∀ (s : State) (x : Byte) (yz : Wyde),
    (cond (s.reg x) → GoesTo s (s.pc + BitVec.ofNat 64 (4 * yz.toNat)) (exec (forwardForm x yz) s) ∧
      GoesTo s (s.pc - BitVec.ofNat 64 (4 * (65536 - yz.toNat))) (exec (backwardForm x yz) s)) ∧
    (¬cond (s.reg x) → GoesTo s (s.pc + 4) (exec (forwardForm x yz) s) ∧ GoesTo s (s.pc + 4) (exec (backwardForm x yz) s))

/-- V when the exact result does not fit a signed 64-bit word, else no event (40_integer_arith.md R200). -/
def signedFlag (r : Int) : Byte := if -2 ^ 63 ≤ r ∧ r < 2 ^ 63 then 0#8 else 0x40#8

/-- A store form, its immediate form, and the datum it stores of a state and its field X. -/
abbrev StoreForms := (Byte → Byte → Byte → Instr) × (Byte → Byte → Byte → Instr) × (State → Byte → Word)

/-- A load form, its immediate form, and what it makes of a stored datum. -/
abbrev LoadForms := (Byte → Byte → Byte → Instr) × (Byte → Byte → Byte → Instr) × (Word → Word)

/-- What each of the stores leaves in its `n` bytes, each of the loads at the same address returns, in whatever state
`u` the instructions between them have left, as long as they have not changed those bytes (43_load_store.md R345). -/
def RoundTrips (n : Nat) (stores : List StoreForms) (loads : List LoadForms) : Prop :=
  ∀ st ∈ stores, ∀ ld ∈ loads, ∀ (s : State) (x y z : Byte), s.mem.wf →
    ∀ (i : Instr) (a : Word),
      (i = st.1 x y z ∧ a = s.reg y + s.reg z ∨ i = st.2.1 x y z ∧ a = s.reg y + z.setWidth 64) →
      ∃ t, exec i s = .next t ∧
        ∀ (u : State) (b p q : Byte), u.roomFor b = true →
          (∀ k, k < n → u.mem.read (effective n a + k) = t.mem.read (effective n a + k)) →
          ∀ (j : Instr),
            (j = ld.1 b p q ∧ u.reg p + u.reg q = a ∨ j = ld.2.1 b p q ∧ u.reg p + q.setWidth 64 = a) →
            Computes u b (ld.2.2 (st.2.2 s x)) u.sr (exec j u)

/-! ### Bytes of memory as numbers, the most significant at the lowest address (20_memory.md R82) -/

def wydeIn (m : Memory) (a : Nat) : Wyde := m.read a ++ m.read (a + 1)

def tetraIn (m : Memory) (a : Nat) : Tetra := wydeIn m a ++ wydeIn m (a + 2)

def octaIn (m : Memory) (a : Nat) : Word := tetraIn m a ++ tetraIn m (a + 4)

/-! ### Loaded images (70_reset_and_hazards.md R543) -/

/-- Where byte `i` of a segment is loaded. -/
def byteAddress (g : Word × List Byte) (i : Nat) : Nat := effective 1 (g.1 + BitVec.ofNat 64 i)

/-- The segment has a byte at this address. -/
def Covers (g : Word × List Byte) (a : Nat) : Prop := ∃ i, i < g.2.length ∧ byteAddress g i = a

/-! ### Classes of instructions -/

/-- The opcodes that may change what `GET` reads of a special register: those of the instructions its row of 10_state.md
R40 names, then `PUT`, `PUTI` and `UNSAVE` where they write it (47_system.md R477, R482). rO follows the register stack
(R32); rA, rL and the draws rC, rI, rU are not told by the opcode, and have none here. -/
def writersOf (r : SpecialReg) : List Byte :=
  match r with
  | .rB | .rW | .rX | .rY | .rZ => [0xFF, 0xF6, 0xF7, 0xFB]
  | .rD | .rE | .rM => [0xF6, 0xF7, 0xFB]
  | .rH => [0x1A, 0x1B, 0xF6, 0xF7, 0xFB]
  | .rJ => [0xF2, 0xF3, 0xBE, 0xBF, 0xF6, 0xF7, 0xFB]
  | .rR => [0x1C, 0x1D, 0x1E, 0x1F, 0xF6, 0xF7, 0xFB]
  | .rP => [0x94, 0x95, 0xF6, 0xF7, 0xFB]
  | .rG => [0xF6, 0xF7, 0xFB]
  | .rBB | .rF | .rWW | .rXX | .rYY | .rZZ => [0xF6, 0xF7]
  | .rO => [0xF2, 0xF3, 0xBE, 0xBF, 0xF8]
  | .rN | .rS | .rT | .rTT | .rK | .rQ | .rV | .rA | .rL | .rC | .rI | .rU => []

/-- The opcodes that may set `pc` to something else than `@ + 4` (10_state.md R27): branches, `GO`, pushes, `JMP`,
`POP`, `RESUME`, `TRIP`. -/
def transfersControl (op : Byte) : Bool :=
  decide (0x40 ≤ op.toNat ∧ op.toNat ≤ 0x5F) ||
    [0x9E#8, 0x9F, 0xBE, 0xBF, 0xF0, 0xF1, 0xF2, 0xF3, 0xF8, 0xF9, 0xFF].contains op

/-- The general register that an instruction names as its destination and writes through 10_state.md R25. -/
def destination (i : Instr) : Option Byte :=
  match i with
  | .trap _ y _ => if y = 7 then some 255 else none
  | .trip _ _ _ => some 255
  | .fcmp x _ _ | .funop x _ _ | .feql x _ _ | .fadd x _ _ | .fix x _ _ | .fsub x _ _ | .fixu x _ _ | .flot x _ _
  | .floti x _ _ | .flotu x _ _ | .flotui x _ _ | .sflot x _ _ | .sfloti x _ _ | .sflotu x _ _ | .sflotui x _ _
  | .fmul x _ _ | .fcmpe x _ _ | .fune x _ _ | .feqle x _ _ | .fdiv x _ _ | .fsqrt x _ _ | .frem x _ _ | .fint x _ _
  | .mul x _ _ | .muli x _ _ | .mulu x _ _ | .mului x _ _ | .div x _ _ | .divi x _ _ | .divu x _ _ | .divui x _ _
  | .add x _ _ | .addi x _ _ | .addu x _ _ | .addui x _ _ | .sub x _ _ | .subi x _ _ | .subu x _ _ | .subui x _ _
  | .twoAddu x _ _ | .twoAddui x _ _ | .fourAddu x _ _ | .fourAddui x _ _ | .eightAddu x _ _ | .eightAddui x _ _
  | .sixteenAddu x _ _ | .sixteenAddui x _ _ | .cmp x _ _ | .cmpi x _ _ | .cmpu x _ _ | .cmpui x _ _ | .neg x _ _
  | .negi x _ _ | .negu x _ _ | .negui x _ _ | .sl x _ _ | .sli x _ _ | .slu x _ _ | .slui x _ _ | .sr x _ _
  | .sri x _ _ | .sru x _ _ | .srui x _ _ | .csn x _ _ | .csni x _ _ | .csz x _ _ | .cszi x _ _ | .csp x _ _
  | .cspi x _ _ | .csod x _ _ | .csodi x _ _ | .csnn x _ _ | .csnni x _ _ | .csnz x _ _ | .csnzi x _ _ | .csnp x _ _
  | .csnpi x _ _ | .csev x _ _ | .csevi x _ _ | .zsn x _ _ | .zsni x _ _ | .zsz x _ _ | .zszi x _ _ | .zsp x _ _
  | .zspi x _ _ | .zsod x _ _ | .zsodi x _ _ | .zsnn x _ _ | .zsnni x _ _ | .zsnz x _ _ | .zsnzi x _ _ | .zsnp x _ _
  | .zsnpi x _ _ | .zsev x _ _ | .zsevi x _ _ | .ldb x _ _ | .ldbi x _ _ | .ldbu x _ _ | .ldbui x _ _ | .ldw x _ _
  | .ldwi x _ _ | .ldwu x _ _ | .ldwui x _ _ | .ldt x _ _ | .ldti x _ _ | .ldtu x _ _ | .ldtui x _ _ | .ldo x _ _
  | .ldoi x _ _ | .ldou x _ _ | .ldoui x _ _ | .ldsf x _ _ | .ldsfi x _ _ | .ldht x _ _ | .ldhti x _ _
  | .cswap x _ _ | .cswapi x _ _ | .ldunc x _ _ | .ldunci x _ _ | .go x _ _ | .goi x _ _ | .or x _ _ | .ori x _ _
  | .orn x _ _ | .orni x _ _ | .nor x _ _ | .nori x _ _ | .xor x _ _ | .xori x _ _ | .and x _ _ | .andi x _ _
  | .andn x _ _ | .andni x _ _ | .nand x _ _ | .nandi x _ _ | .nxor x _ _ | .nxori x _ _ | .bdif x _ _
  | .bdifi x _ _ | .wdif x _ _ | .wdifi x _ _ | .tdif x _ _ | .tdifi x _ _ | .odif x _ _ | .odifi x _ _ | .mux x _ _
  | .muxi x _ _ | .sadd x _ _ | .saddi x _ _ | .mor x _ _ | .mori x _ _ | .mxor x _ _ | .mxori x _ _ | .seth x _
  | .setmh x _ | .setml x _ | .setl x _ | .inch x _ | .incmh x _ | .incml x _ | .incl x _ | .orh x _ | .ormh x _
  | .orml x _ | .orl x _ | .andnh x _ | .andnmh x _ | .andnml x _ | .andnl x _ | .geta x _ | .getab x _
  | .save x _ _ | .get x _ _ => some x
  | .bn _ _ | .bnb _ _ | .bz _ _ | .bzb _ _ | .bp _ _ | .bpb _ _ | .bod _ _ | .bodb _ _ | .bnn _ _ | .bnnb _ _
  | .bnz _ _ | .bnzb _ _ | .bnp _ _ | .bnpb _ _ | .bev _ _ | .bevb _ _ | .pbn _ _ | .pbnb _ _ | .pbz _ _ | .pbzb _ _
  | .pbp _ _ | .pbpb _ _ | .pbod _ _ | .pbodb _ _ | .pbnn _ _ | .pbnnb _ _ | .pbnz _ _ | .pbnzb _ _ | .pbnp _ _
  | .pbnpb _ _ | .pbev _ _ | .pbevb _ _ | .ldvts | .ldvtsi | .preld | .preldi | .prego | .pregoi | .stb _ _ _
  | .stbi _ _ _ | .stbu _ _ _ | .stbui _ _ _ | .stw _ _ _ | .stwi _ _ _ | .stwu _ _ _ | .stwui _ _ _ | .stt _ _ _
  | .stti _ _ _ | .sttu _ _ _ | .sttui _ _ _ | .sto _ _ _ | .stoi _ _ _ | .stou _ _ _ | .stoui _ _ _ | .stsf _ _ _
  | .stsfi _ _ _ | .stht _ _ _ | .sthti _ _ _ | .stco _ _ _ | .stcoi _ _ _ | .stunc _ _ _ | .stunci _ _ _ | .syncd
  | .syncdi | .prest | .presti | .syncid | .syncidi | .pushgo _ _ _ | .pushgoi _ _ _ | .jmp _ | .jmpb _ | .pushj _ _
  | .pushjb _ _ | .put _ _ _ | .puti _ _ _ | .pop _ _ | .resume _ _ _ | .unsave _ _ _ | .sync | .swym => none

/-- The instruction moves or resizes the register window: a push, `POP`, `UNSAVE`, `PUT` or `PUTI` (R20, R23). -/
def movesWindow (i : Instr) : Bool :=
  match i with
  | .pushgo _ _ _ | .pushgoi _ _ _ | .pushj _ _ | .pushjb _ _ | .put _ _ _ | .puti _ _ _ | .pop _ _ | .unsave _ _ _
  => true
  | .trap _ _ _ | .fcmp _ _ _ | .funop _ _ _ | .feql _ _ _ | .fadd _ _ _ | .fix _ _ _ | .fsub _ _ _ | .fixu _ _ _
  | .flot _ _ _ | .floti _ _ _ | .flotu _ _ _ | .flotui _ _ _ | .sflot _ _ _ | .sfloti _ _ _ | .sflotu _ _ _
  | .sflotui _ _ _ | .fmul _ _ _ | .fcmpe _ _ _ | .fune _ _ _ | .feqle _ _ _ | .fdiv _ _ _ | .fsqrt _ _ _
  | .frem _ _ _ | .fint _ _ _ | .mul _ _ _ | .muli _ _ _ | .mulu _ _ _ | .mului _ _ _ | .div _ _ _ | .divi _ _ _
  | .divu _ _ _ | .divui _ _ _ | .add _ _ _ | .addi _ _ _ | .addu _ _ _ | .addui _ _ _ | .sub _ _ _ | .subi _ _ _
  | .subu _ _ _ | .subui _ _ _ | .twoAddu _ _ _ | .twoAddui _ _ _ | .fourAddu _ _ _ | .fourAddui _ _ _
  | .eightAddu _ _ _ | .eightAddui _ _ _ | .sixteenAddu _ _ _ | .sixteenAddui _ _ _ | .cmp _ _ _ | .cmpi _ _ _
  | .cmpu _ _ _ | .cmpui _ _ _ | .neg _ _ _ | .negi _ _ _ | .negu _ _ _ | .negui _ _ _ | .sl _ _ _ | .sli _ _ _
  | .slu _ _ _ | .slui _ _ _ | .sr _ _ _ | .sri _ _ _ | .sru _ _ _ | .srui _ _ _ | .bn _ _ | .bnb _ _ | .bz _ _
  | .bzb _ _ | .bp _ _ | .bpb _ _ | .bod _ _ | .bodb _ _ | .bnn _ _ | .bnnb _ _ | .bnz _ _ | .bnzb _ _ | .bnp _ _
  | .bnpb _ _ | .bev _ _ | .bevb _ _ | .pbn _ _ | .pbnb _ _ | .pbz _ _ | .pbzb _ _ | .pbp _ _ | .pbpb _ _
  | .pbod _ _ | .pbodb _ _ | .pbnn _ _ | .pbnnb _ _ | .pbnz _ _ | .pbnzb _ _ | .pbnp _ _ | .pbnpb _ _ | .pbev _ _
  | .pbevb _ _ | .csn _ _ _ | .csni _ _ _ | .csz _ _ _ | .cszi _ _ _ | .csp _ _ _ | .cspi _ _ _ | .csod _ _ _
  | .csodi _ _ _ | .csnn _ _ _ | .csnni _ _ _ | .csnz _ _ _ | .csnzi _ _ _ | .csnp _ _ _ | .csnpi _ _ _
  | .csev _ _ _ | .csevi _ _ _ | .zsn _ _ _ | .zsni _ _ _ | .zsz _ _ _ | .zszi _ _ _ | .zsp _ _ _ | .zspi _ _ _
  | .zsod _ _ _ | .zsodi _ _ _ | .zsnn _ _ _ | .zsnni _ _ _ | .zsnz _ _ _ | .zsnzi _ _ _ | .zsnp _ _ _
  | .zsnpi _ _ _ | .zsev _ _ _ | .zsevi _ _ _ | .ldb _ _ _ | .ldbi _ _ _ | .ldbu _ _ _ | .ldbui _ _ _ | .ldw _ _ _
  | .ldwi _ _ _ | .ldwu _ _ _ | .ldwui _ _ _ | .ldt _ _ _ | .ldti _ _ _ | .ldtu _ _ _ | .ldtui _ _ _ | .ldo _ _ _
  | .ldoi _ _ _ | .ldou _ _ _ | .ldoui _ _ _ | .ldsf _ _ _ | .ldsfi _ _ _ | .ldht _ _ _ | .ldhti _ _ _
  | .cswap _ _ _ | .cswapi _ _ _ | .ldunc _ _ _ | .ldunci _ _ _ | .ldvts | .ldvtsi | .preld | .preldi | .prego
  | .pregoi | .go _ _ _ | .goi _ _ _ | .stb _ _ _ | .stbi _ _ _ | .stbu _ _ _ | .stbui _ _ _ | .stw _ _ _
  | .stwi _ _ _ | .stwu _ _ _ | .stwui _ _ _ | .stt _ _ _ | .stti _ _ _ | .sttu _ _ _ | .sttui _ _ _ | .sto _ _ _
  | .stoi _ _ _ | .stou _ _ _ | .stoui _ _ _ | .stsf _ _ _ | .stsfi _ _ _ | .stht _ _ _ | .sthti _ _ _ | .stco _ _ _
  | .stcoi _ _ _ | .stunc _ _ _ | .stunci _ _ _ | .syncd | .syncdi | .prest | .presti | .syncid | .syncidi
  | .or _ _ _ | .ori _ _ _ | .orn _ _ _ | .orni _ _ _ | .nor _ _ _ | .nori _ _ _ | .xor _ _ _ | .xori _ _ _
  | .and _ _ _ | .andi _ _ _ | .andn _ _ _ | .andni _ _ _ | .nand _ _ _ | .nandi _ _ _ | .nxor _ _ _ | .nxori _ _ _
  | .bdif _ _ _ | .bdifi _ _ _ | .wdif _ _ _ | .wdifi _ _ _ | .tdif _ _ _ | .tdifi _ _ _ | .odif _ _ _
  | .odifi _ _ _ | .mux _ _ _ | .muxi _ _ _ | .sadd _ _ _ | .saddi _ _ _ | .mor _ _ _ | .mori _ _ _ | .mxor _ _ _
  | .mxori _ _ _ | .seth _ _ | .setmh _ _ | .setml _ _ | .setl _ _ | .inch _ _ | .incmh _ _ | .incml _ _ | .incl _ _
  | .orh _ _ | .ormh _ _ | .orml _ _ | .orl _ _ | .andnh _ _ | .andnmh _ _ | .andnml _ _ | .andnl _ _ | .jmp _
  | .jmpb _ | .geta _ _ | .getab _ _ | .resume _ _ _ | .save _ _ _ | .sync | .swym | .get _ _ _ | .trip _ _ _
  => false

/-- The instruction may write memory: a store, `CSWAP` or `SAVE` (20_memory.md R84). -/
def mayStore (i : Instr) : Bool :=
  match i with
  | .cswap _ _ _ | .cswapi _ _ _ | .stb _ _ _ | .stbi _ _ _ | .stbu _ _ _ | .stbui _ _ _ | .stw _ _ _ | .stwi _ _ _
  | .stwu _ _ _ | .stwui _ _ _ | .stt _ _ _ | .stti _ _ _ | .sttu _ _ _ | .sttui _ _ _ | .sto _ _ _ | .stoi _ _ _
  | .stou _ _ _ | .stoui _ _ _ | .stsf _ _ _ | .stsfi _ _ _ | .stht _ _ _ | .sthti _ _ _ | .stco _ _ _
  | .stcoi _ _ _ | .stunc _ _ _ | .stunci _ _ _ | .save _ _ _ => true
  | .trap _ _ _ | .fcmp _ _ _ | .funop _ _ _ | .feql _ _ _ | .fadd _ _ _ | .fix _ _ _ | .fsub _ _ _ | .fixu _ _ _
  | .flot _ _ _ | .floti _ _ _ | .flotu _ _ _ | .flotui _ _ _ | .sflot _ _ _ | .sfloti _ _ _ | .sflotu _ _ _
  | .sflotui _ _ _ | .fmul _ _ _ | .fcmpe _ _ _ | .fune _ _ _ | .feqle _ _ _ | .fdiv _ _ _ | .fsqrt _ _ _
  | .frem _ _ _ | .fint _ _ _ | .mul _ _ _ | .muli _ _ _ | .mulu _ _ _ | .mului _ _ _ | .div _ _ _ | .divi _ _ _
  | .divu _ _ _ | .divui _ _ _ | .add _ _ _ | .addi _ _ _ | .addu _ _ _ | .addui _ _ _ | .sub _ _ _ | .subi _ _ _
  | .subu _ _ _ | .subui _ _ _ | .twoAddu _ _ _ | .twoAddui _ _ _ | .fourAddu _ _ _ | .fourAddui _ _ _
  | .eightAddu _ _ _ | .eightAddui _ _ _ | .sixteenAddu _ _ _ | .sixteenAddui _ _ _ | .cmp _ _ _ | .cmpi _ _ _
  | .cmpu _ _ _ | .cmpui _ _ _ | .neg _ _ _ | .negi _ _ _ | .negu _ _ _ | .negui _ _ _ | .sl _ _ _ | .sli _ _ _
  | .slu _ _ _ | .slui _ _ _ | .sr _ _ _ | .sri _ _ _ | .sru _ _ _ | .srui _ _ _ | .bn _ _ | .bnb _ _ | .bz _ _
  | .bzb _ _ | .bp _ _ | .bpb _ _ | .bod _ _ | .bodb _ _ | .bnn _ _ | .bnnb _ _ | .bnz _ _ | .bnzb _ _ | .bnp _ _
  | .bnpb _ _ | .bev _ _ | .bevb _ _ | .pbn _ _ | .pbnb _ _ | .pbz _ _ | .pbzb _ _ | .pbp _ _ | .pbpb _ _
  | .pbod _ _ | .pbodb _ _ | .pbnn _ _ | .pbnnb _ _ | .pbnz _ _ | .pbnzb _ _ | .pbnp _ _ | .pbnpb _ _ | .pbev _ _
  | .pbevb _ _ | .csn _ _ _ | .csni _ _ _ | .csz _ _ _ | .cszi _ _ _ | .csp _ _ _ | .cspi _ _ _ | .csod _ _ _
  | .csodi _ _ _ | .csnn _ _ _ | .csnni _ _ _ | .csnz _ _ _ | .csnzi _ _ _ | .csnp _ _ _ | .csnpi _ _ _
  | .csev _ _ _ | .csevi _ _ _ | .zsn _ _ _ | .zsni _ _ _ | .zsz _ _ _ | .zszi _ _ _ | .zsp _ _ _ | .zspi _ _ _
  | .zsod _ _ _ | .zsodi _ _ _ | .zsnn _ _ _ | .zsnni _ _ _ | .zsnz _ _ _ | .zsnzi _ _ _ | .zsnp _ _ _
  | .zsnpi _ _ _ | .zsev _ _ _ | .zsevi _ _ _ | .ldb _ _ _ | .ldbi _ _ _ | .ldbu _ _ _ | .ldbui _ _ _ | .ldw _ _ _
  | .ldwi _ _ _ | .ldwu _ _ _ | .ldwui _ _ _ | .ldt _ _ _ | .ldti _ _ _ | .ldtu _ _ _ | .ldtui _ _ _ | .ldo _ _ _
  | .ldoi _ _ _ | .ldou _ _ _ | .ldoui _ _ _ | .ldsf _ _ _ | .ldsfi _ _ _ | .ldht _ _ _ | .ldhti _ _ _
  | .ldunc _ _ _ | .ldunci _ _ _ | .ldvts | .ldvtsi | .preld | .preldi | .prego | .pregoi | .go _ _ _ | .goi _ _ _
  | .syncd | .syncdi | .prest | .presti | .syncid | .syncidi | .pushgo _ _ _ | .pushgoi _ _ _ | .or _ _ _
  | .ori _ _ _ | .orn _ _ _ | .orni _ _ _ | .nor _ _ _ | .nori _ _ _ | .xor _ _ _ | .xori _ _ _ | .and _ _ _
  | .andi _ _ _ | .andn _ _ _ | .andni _ _ _ | .nand _ _ _ | .nandi _ _ _ | .nxor _ _ _ | .nxori _ _ _ | .bdif _ _ _
  | .bdifi _ _ _ | .wdif _ _ _ | .wdifi _ _ _ | .tdif _ _ _ | .tdifi _ _ _ | .odif _ _ _ | .odifi _ _ _ | .mux _ _ _
  | .muxi _ _ _ | .sadd _ _ _ | .saddi _ _ _ | .mor _ _ _ | .mori _ _ _ | .mxor _ _ _ | .mxori _ _ _ | .seth _ _
  | .setmh _ _ | .setml _ _ | .setl _ _ | .inch _ _ | .incmh _ _ | .incml _ _ | .incl _ _ | .orh _ _ | .ormh _ _
  | .orml _ _ | .orl _ _ | .andnh _ _ | .andnmh _ _ | .andnml _ _ | .andnl _ _ | .jmp _ | .jmpb _ | .pushj _ _
  | .pushjb _ _ | .geta _ _ | .getab _ _ | .put _ _ _ | .puti _ _ _ | .pop _ _ | .resume _ _ _ | .unsave _ _ _
  | .sync | .swym | .get _ _ _ | .trip _ _ _ => false

/-! ### Calls and returns (45_control_transfer.md R400, R403) -/

/-- The number of registers that a push hides: X, or every local register when `$X` is global. -/
def hiddenBy (s : State) (x : Byte) : Nat := if s.G ≤ x.toNat then s.L else x.toNat

/-- The result `r` is that of `push(x, target)`: the hidden registers and their number are on the register stack, the
registers above the hole are the callee's first ones, rJ holds the return address, and nothing else has changed. -/
def Pushes (s : State) (x : Byte) (target : Word) (r : Result) : Prop :=
  let h := hiddenBy s x
  ∃ t, r = .next t ∧
    t.stack = s.stack ++ (List.range h).map (fun i => s.reg (BitVec.ofNat 8 i)) ++ [BitVec.ofNat 64 h] ∧
    t.L = s.L - (h + 1) ∧ t.G = s.G ∧
    (∀ k : Byte, k.toNat < t.L → t.reg k = s.reg (k + BitVec.ofNat 8 (h + 1))) ∧
    (∀ k : Byte, s.G ≤ k.toNat → t.reg k = s.reg k) ∧
    t.sr = { s.sr with rJ := s.pc + 4 } ∧ t.pc = target ∧ KeptMem s t ∧
    t.status = s.status ∧ t.out = s.out ∧ t.params = s.params ∧ t.draws = s.draws

/-- The result `r` is that of `POP x,yz` with the caller registers `caller` below the hole on top of `below`: the caller
has its registers back, then the main result, then the others, as far as G allows. -/
def Pops (s : State) (x : Byte) (yz : Wyde) (below caller : List Word) (r : Result) : Prop :=
  let n := if x.toNat ≤ s.L then x.toNat else s.L + 1
  ∃ t, r = .next t ∧ t.stack = below ∧ t.L = min (caller.length + n) s.G ∧ t.G = s.G ∧
    (∀ k : Byte, k.toNat < t.L →
      (∀ h : k.toNat < caller.length, t.reg k = caller[k.toNat]) ∧
      (k.toNat = caller.length → t.reg k = if x.toNat ≤ s.L then s.reg (x - 1) else 0) ∧
      (caller.length < k.toNat → t.reg k = s.reg (k - BitVec.ofNat 8 (caller.length + 1)))) ∧
    (∀ k : Byte, s.G ≤ k.toNat → t.reg k = s.reg k) ∧
    t.sr = s.sr ∧ t.pc = (s.sr.rJ + BitVec.ofNat 64 (4 * yz.toNat)) &&& ~~~3#64 ∧ KeptMem s t ∧
    t.status = s.status ∧ t.out = s.out ∧ t.params = s.params ∧ t.draws = s.draws

/-! ### Rounding (46_floating_point.md R420-R423) -/

/-- What the bits below the sign stand for, in units of the least subnormal number. Neighbouring bit patterns are
neighbouring numbers, and the pattern of infinity stands for the first number past the largest finite one. -/
def Format.units (f : Format) (mag : Nat) : Nat :=
  if mag < 2 ^ f.fracBits then mag
  else (2 ^ f.fracBits + mag % 2 ^ f.fracBits) * 2 ^ (mag / 2 ^ f.fracBits - 1)

/-- Which of the neighbours `lo` and `lo + 1` a number strictly between them rounds to, given how it compares with their
midpoint (R421). -/
def chosen (mode : Rounding) (neg : Bool) (lo : Nat) (midpoint : Ordering) : Nat :=
  match mode with
  | .off => lo
  | .up => if neg then lo else lo + 1
  | .down => if neg then lo + 1 else lo
  | .near =>
    match midpoint with
    | .lt => lo
    | .gt => lo + 1
    | .eq => if lo % 2 = 0 then lo else lo + 1

/-- An overflowing result is infinite under NEAR, under UP when positive and under DOWN when negative (R422). -/
def infiniteOnOverflow (mode : Rounding) (neg : Bool) : Prop :=
  mode = .near ∨ mode = .up ∧ neg = false ∨ mode = .down ∧ neg = true

/-- `(bits, ev)` is the correctly rounded form of the real whose sign is `neg` and whose magnitude, in units of the
format's least subnormal number, compares with every rational as `cmp` says (R421-R423). Below overflow an inexact
result sets X; it sets U too when it lies below the least normal number and tininess is judged before rounding. Of the
other value of `TININESS` only what R422 says under every reading of it is claimed: U goes with no magnitude from the
least normal number upward (assumption 10). -/
def RoundsTo (f : Format) (p : Params) (mode : Rounding) (neg : Bool) (cmp : ℚ → Ordering) (bits : Nat) (ev : Byte) :
    Prop :=
  ∃ lo : Nat, cmp (f.units lo) ≠ .lt ∧ cmp (f.units (lo + 1)) = .lt ∧
    let exact := cmp (f.units lo) = .eq
    let mag := if exact then lo else chosen mode neg lo (cmp (((f.units lo : ℚ) + f.units (lo + 1)) / 2))
    (mag < f.infBits → bits = f.pack neg mag ∧ (exact → ev = 0) ∧
      (¬exact → (ev = 0x01#8 ∨ ev = 0x05#8) ∧ (cmp (2 ^ f.fracBits) ≠ .lt → ev = 0x01#8) ∧
        (p.tininess = .beforeRounding → cmp (2 ^ f.fracBits) = .lt → ev = 0x05#8))) ∧
    (f.infBits ≤ mag → ev = 0x09#8 ∧
      (infiniteOnOverflow mode neg → bits = f.pack neg f.infBits) ∧
      (¬infiniteOnOverflow mode neg → bits = f.pack neg (f.infBits - 1)))

/-- The integer that a nonnegative rational with the given sign rounds to (R421). -/
def RoundsToInteger (mode : Rounding) (neg : Bool) (r : ℚ) (k : Nat) : Prop :=
  ∃ lo : Nat, (lo : ℚ) ≤ r ∧ r < lo + 1 ∧
    k = if (lo : ℚ) = r then lo else chosen mode neg lo (compare r (lo + 1 / 2))

/-- How a rational compares with others. -/
def cmpRat (r : ℚ) (q : ℚ) : Ordering := if r < q then .lt else if r = q then .eq else .gt

/-- How the square root of a nonnegative rational compares with others. -/
def cmpRoot (r : ℚ) (q : ℚ) : Ordering := if q < 0 then .gt else cmpRat r (q * q)

/-! ### What the floating-point instructions compute (R424, R427-R449) -/

/-- The value of a finite datum; 0 for the others (R420). -/
def FloatVal.rat (v : FloatVal) : ℚ :=
  match v with
  | .finite neg m => (signedUnits neg m : ℚ) / 2 ^ 1074
  | .inf _ | .nan _ => 0

/-- `v` and `ev` are what R424 gives for operands with a NaN among them: z's NaN before y's, quieted, and I when either
is signaling. -/
def NanResult (y z v : Word) (ev : Byte) : Prop :=
  v = (if (floatVal z).isNan then z else y) ||| 0x0008000000000000#64 ∧
    ev = if (floatVal y).isSignaling ∨ (floatVal z).isSignaling then 0x10#8 else 0#8

/-- A correctly rounded binary64 result of the exact value `r`, with the sign a zero takes (R422). -/
def RoundedResult (p : Params) (mode : Rounding) (zeroNeg : Bool) (r : ℚ) (v : Word) (ev : Byte) : Prop :=
  RoundsTo binary64 p mode (if r = 0 then zeroNeg else decide (r < 0)) (cmpRat (|r| * 2 ^ 1074)) v.toNat ev

/-- An infinity of the given sign. -/
def infinityWord (neg : Bool) : Word := if neg then 0xFFF0000000000000#64 else 0x7FF0000000000000#64

/-- A zero of the given sign. -/
def signedZero (neg : Bool) : Word := if neg then 0x8000000000000000#64 else 0#64

/-- `FADD` (R427). -/
def AddRule (p : Params) (mode : Rounding) (y z v : Word) (ev : Byte) : Prop :=
  match floatVal y, floatVal z with
  | .nan _, _ => NanResult y z v ev
  | _, .nan _ => NanResult y z v ev
  | .inf a, .inf b => if a = b then v = y ∧ ev = 0#8 else v = p.nanResult ∧ ev = 0x10#8
  | .inf _, .finite _ _ => v = y ∧ ev = 0#8
  | .finite _ _, .inf _ => v = z ∧ ev = 0#8
  | .finite a m, .finite b n =>
    RoundedResult p mode (if a = b then a else decide (mode = .down))
      ((FloatVal.finite a m).rat + (FloatVal.finite b n).rat) v ev

/-- `FMUL` (R429). -/
def MulRule (p : Params) (mode : Rounding) (y z v : Word) (ev : Byte) : Prop :=
  match floatVal y, floatVal z with
  | .nan _, _ => NanResult y z v ev
  | _, .nan _ => NanResult y z v ev
  | .inf a, .inf b => v = infinityWord (a != b) ∧ ev = 0#8
  | .inf a, .finite b n => if n = 0 then v = p.nanResult ∧ ev = 0x10#8 else v = infinityWord (a != b) ∧ ev = 0#8
  | .finite a m, .inf b => if m = 0 then v = p.nanResult ∧ ev = 0x10#8 else v = infinityWord (a != b) ∧ ev = 0#8
  | .finite a m, .finite b n =>
    RoundedResult p mode (a != b) ((FloatVal.finite a m).rat * (FloatVal.finite b n).rat) v ev

/-- `FDIV` (R430). The division of an infinity by zero is the rule's third case, which sets Z. -/
def DivRule (p : Params) (mode : Rounding) (y z v : Word) (ev : Byte) : Prop :=
  match floatVal y, floatVal z with
  | .nan _, _ => NanResult y z v ev
  | _, .nan _ => NanResult y z v ev
  | .inf _, .inf _ => v = p.nanResult ∧ ev = 0x10#8
  | .inf a, .finite b n => v = infinityWord (a != b) ∧ ev = if n = 0 then 0x02#8 else 0#8
  | .finite a _, .inf b => v = signedZero (a != b) ∧ ev = 0#8
  | .finite a m, .finite b n =>
    if n = 0 then (if m = 0 then v = p.nanResult ∧ ev = 0x10#8 else v = infinityWord (a != b) ∧ ev = 0x02#8)
    else RoundedResult p mode (a != b) ((FloatVal.finite a m).rat / (FloatVal.finite b n).rat) v ev

/-- `FREM` (R431): the exact remainder by the nearest integer quotient, ties to even. -/
def RemRule (p : Params) (y z v : Word) (ev : Byte) : Prop :=
  match floatVal y, floatVal z with
  | .nan _, _ => NanResult y z v ev
  | _, .nan _ => NanResult y z v ev
  | .inf _, _ => v = p.nanResult ∧ ev = 0x10#8
  | .finite _ _, .inf _ => v = y ∧ ev = 0#8
  | .finite a m, .finite b n =>
    if n = 0 then v = p.nanResult ∧ ev = 0x10#8
    else
      ev = 0#8 ∧ ∃ (q : Int) (c : Bool) (k : Nat), floatVal v = .finite c k ∧
        signedUnits c k = signedUnits a m - q * signedUnits b n ∧ 2 * k ≤ n ∧ (2 * k = n → q % 2 = 0) ∧ (k = 0 → c = a)

/-- `FSQRT` (R432). -/
def SqrtRule (p : Params) (mode : Rounding) (z v : Word) (ev : Byte) : Prop :=
  match floatVal z with
  | .nan quiet => v = z ||| 0x0008000000000000#64 ∧ ev = if quiet then 0#8 else 0x10#8
  | .inf neg => if neg then v = p.nanResult ∧ ev = 0x10#8 else v = z ∧ ev = 0#8
  | .finite neg m =>
    if m = 0 then v = z ∧ ev = 0#8
    else if neg then v = p.nanResult ∧ ev = 0x10#8
    else RoundsTo binary64 p mode false (cmpRoot (m * 2 ^ 1074)) v.toNat ev

/-- `FINT` (R433): an integral value with the sign of z, and X when that changed the value. -/
def IntRule (mode : Rounding) (z v : Word) (ev : Byte) : Prop :=
  match floatVal z with
  | .nan quiet => v = z ||| 0x0008000000000000#64 ∧ ev = if quiet then 0#8 else 0x10#8
  | .inf _ => v = z ∧ ev = 0#8
  | .finite neg m =>
    ∃ k, RoundsToInteger mode neg ((m : ℚ) / 2 ^ 1074) k ∧ floatVal v = .finite neg (k * 2 ^ 1074) ∧
      ev = if (k : ℚ) = (m : ℚ) / 2 ^ 1074 then 0#8 else 0x01#8

/-- `FIX`, and `FIXU`, which sets no W (R434, R435). -/
def FixRule (signed : Bool) (mode : Rounding) (z v : Word) (ev : Byte) : Prop :=
  match floatVal z with
  | .nan _ => v = z ||| 0x0008000000000000#64 ∧ ev = 0x10#8
  | .inf _ => v = z ∧ ev = 0x10#8
  | .finite neg m =>
    ∃ k, RoundsToInteger mode neg ((m : ℚ) / 2 ^ 1074) k ∧ v = BitVec.ofInt 64 (signedUnits neg k) ∧
      ev = (if (k : ℚ) = (m : ℚ) / 2 ^ 1074 then 0#8 else 0x01#8) |||
        (if signed = true ∧ (signedUnits neg k < -2 ^ 63 ∨ 2 ^ 63 ≤ signedUnits neg k) then 0x20#8 else 0#8)

/-- The binary64 word `v` has the value of the binary32 tetra `t`; a NaN keeps its sign and its fraction (R448). -/
def Widens (t : Tetra) (v : Word) : Prop :=
  match binary32.unpack t.toNat with
  | .nan _ => v = t.extractLsb' 31 1 ++ 0x7FF#11 ++ t.extractLsb' 0 23 ++ 0#29
  | .inf neg => v = infinityWord neg
  | .finite neg m => floatVal v = .finite neg (m * 2 ^ 925)

/-- The binary32 tetra `t` and the events that `store_sf` gives for the binary64 word `v` (R449). -/
def Shortens (p : Params) (mode : Rounding) (v : Word) (t : Tetra) (ev : Byte) : Prop :=
  match floatVal v with
  | .nan quiet => t = v.extractLsb' 63 1 ++ 0x1FF#9 ++ v.extractLsb' 29 22 ∧ ev = if quiet then 0#8 else 0x10#8
  | .inf neg => t = (if neg then 0xFF800000#32 else 0x7F800000#32) ∧ ev = 0#8
  | .finite neg m => RoundsTo binary32 p mode neg (cmpRat ((m : ℚ) / 2 ^ 925)) t.toNat ev

/-- Where a datum that is no NaN stands among the reals extended by the infinities, in units of `2^-1074`: every finite
number lies strictly between the two infinities, which stand at `-2^2098` and `2^2098` (R440). -/
def FloatVal.position (v : FloatVal) : Int :=
  match v with
  | .finite neg m => signedUnits neg m
  | .inf neg => if neg then -2 ^ 2098 else 2 ^ 2098
  | .nan _ => 0

/-- -1, 0 or 1 as y is below, at or above z. -/
def orderWord (y z : Int) : Word := if y < z then 0xFFFFFFFFFFFFFFFF#64 else if y = z then 0#64 else 1#64

/-- `x` is in the neighbourhood `N(u)` for the tolerance `e >= 0` (R444). For a finite `u` other than 0 the radius is
`e * 2^(floor(log2 |u|) + 1)`; an infinite tolerance puts every datum that is no NaN in it (assumption 9). -/
def Near (e u x : FloatVal) : Prop :=
  match u, x with
  | .nan _, _ => False
  | _, .nan _ => False
  | .finite a m, x =>
    if m = 0 then x = .finite false 0 ∨ x = .finite true 0
    else
      match e, x with
      | .inf _, _ => True
      | .finite _ _, .inf _ => False
      | e, x => ∃ k : ℤ, (2 : ℚ) ^ k ≤ |(FloatVal.finite a m).rat| ∧ |(FloatVal.finite a m).rat| < 2 ^ (k + 1) ∧
          |x.rat - (FloatVal.finite a m).rat| ≤ e.rat * 2 ^ (k + 1)
  | .inf a, x =>
    match e with
    | .inf _ => True
    | e => if e.rat < 1 then x = .inf a else if e.rat < 2 then x ≠ .inf (!a) else True

/-- The comparison with respect to rE is unordered (R444). -/
def Unordered (e y z : Word) : Prop :=
  (floatVal y).isNan = true ∨ (floatVal z).isNan = true ∨ (floatVal e).isNan = true ∨ e.msb = true

end Sys2Proof.Machine
end

