-- ==== Sys2Proof/Certificates/Slice0/Obligations.lean ====
section
/-! DEFINITION. The statements about the model, for the provers. Each docstring names the rules of spec/ it rests on;
the predicates are those of Safety.lean. -/

open Sys2Proof Sys2Proof.Machine

/-- Decoding an encoded instruction gives it back, for all 256 rows and every operand (R121, R122, R135). -/
def Obligations.DecodeOfEncode : Prop :=
  ∀ i : Instr, decode (encode i) = i

/-- Every word decodes by OP alone (R129), and only the operands of the hints are dropped (R131, R470; assumption 5).
-/
def Obligations.EncodeOfDecode : Prop :=
  ∀ w : Tetra, opcode (decode w) = wordOp w ∧
    (wordOp w ∉ [0x98#8, 0x99#8, 0x9A#8, 0x9B#8, 0x9C#8, 0x9D#8, 0xB8#8, 0xB9#8, 0xBA#8, 0xBB#8, 0xBC#8, 0xBD#8,
      0xFC#8, 0xFD#8] → encode (decode w) = w)

/-- One word of each format of R122, written out from R121 and R135, decodes to the instruction it stands for. -/
def Obligations.SampleWordsDecode : Prop :=
  decode 0x20010203#32 = .add 1 2 3 ∧ decode 0x21010203#32 = .addi 1 2 3 ∧ decode 0x34010203#32 = .neg 1 2 3 ∧
    decode 0x35010203#32 = .negi 1 2 3 ∧ decode 0x05010203#32 = .fix 1 2 3 ∧ decode 0x09010203#32 = .floti 1 2 3 ∧
    decode 0xA0010203#32 = .stb 1 2 3 ∧ decode 0xA1010203#32 = .stbi 1 2 3 ∧ decode 0x94010203#32 = .cswap 1 2 3 ∧
    decode 0xB4010203#32 = .stco 1 2 3 ∧ decode 0xB5010203#32 = .stcoi 1 2 3 ∧ decode 0x9A010203#32 = .preld ∧
    decode 0x9B010203#32 = .preldi ∧ decode 0xE4011234#32 = .inch 1 0x1234 ∧ decode 0xE3011234#32 = .setl 1 0x1234 ∧
    decode 0x40030001#32 = .bn 3 1 ∧ decode 0x4103FFFF#32 = .bnb 3 0xFFFF ∧ decode 0xF4030001#32 = .geta 3 1 ∧
    decode 0xF503FFFF#32 = .getab 3 0xFFFF ∧ decode 0xF2030001#32 = .pushj 3 1 ∧ decode 0xF303FFFF#32 = .pushjb 3 0xFFFF ∧
    decode 0xBE010203#32 = .pushgo 1 2 3 ∧ decode 0xBF010203#32 = .pushgoi 1 2 3 ∧ decode 0xF0010203#32 = .jmp 0x010203 ∧
    decode 0xF1FFFFFE#32 = .jmpb 0xFFFFFE ∧ decode 0xF6050007#32 = .put 5 0 7 ∧ decode 0xF7050000#32 = .puti 5 0 0 ∧
    decode 0xFE010015#32 = .get 1 0 21 ∧ decode 0xF8030000#32 = .pop 3 0 ∧ decode 0xFA010000#32 = .save 1 0 0 ∧
    decode 0xFB000001#32 = .unsave 0 0 1 ∧ decode 0xF9000000#32 = .resume 0 0 0 ∧ decode 0x00000003#32 = .trap 0 0 3 ∧
    decode 0xFC000000#32 = .sync ∧ decode 0xFD000000#32 = .swym ∧ decode 0xFF000102#32 = .trip 0 1 2

/-- A step runs the instruction decoded from the four bytes at pc. -/
def Obligations.StepRunsDecoded : Prop :=
  ∀ s : State, s.status = .running →
    s.fetch = tetraIn s.mem (effective 4 s.pc) ∧
    (wordOp s.fetch ∉ s.params.notImplemented → step s = exec (decode s.fetch) s) ∧
    (wordOp s.fetch ∈ s.params.notImplemented → Faults s .unimplemented (step s))

/-- No instruction executes in a terminal status (R21, R508), and in Running every word has an effect (R129). -/
def Obligations.StepsExactlyWhenRunning : Prop :=
  ∀ s : State, (∃ t, step s = .next t) ↔ s.status = .running

/-- The model's own placing of a word (assumption 6): the next fetch reads it, as R90 and R95 say of any store. -/
def Obligations.PlacedWordIsFetched : Prop :=
  ∀ (s : State) (nbits w : Nat), s.mem.wf →
    (s.withFetchWord nbits w).fetch = BitVec.ofNat 32 w ∧
    (∀ b, b < effective 4 s.pc ∨ effective 4 s.pc + 4 ≤ b → (s.withFetchWord nbits w).mem.read b = s.mem.read b) ∧
    (s.withFetchWord nbits w).setMem s.mem = s

/-- The state after reset, for the default image and parameters (R541, R544-R547). -/
def Obligations.ResetStateIsInitial : Prop :=
  State.reset.pc = 0x100#64 ∧ State.reset.L = 0 ∧ State.reset.G = 255 ∧ (∀ k, State.reset.reg k = 0) ∧
    (∀ r, r ∉ [SpecialReg.rC, .rI, .rU, .rN, .rO, .rS, .rG] → State.reset.special r = 0) ∧
    State.reset.special .rO = 0x6000000000000000#64 ∧ State.reset.special .rS = 0x6000000000000000#64 ∧
    State.reset.special .rG = 255 ∧ State.reset.special .rN = Config.rnValue ∧
    State.reset.stack = [] ∧ (∀ a, State.reset.mem.read a = 0) ∧ State.reset.status = .running ∧
    State.reset.out = ⟨[], []⟩

/-- Loading an image (R541-R547, R551). That State.reset is the load of the empty image is the model's choice
(assumption 6). -/
def Obligations.LoadedStateIsInitial : Prop :=
  (∀ (p : Params) (img : Image),
    (∃ s, load p img = .ok s) ↔ (img.entry.toNat % 4 = 0 ∧ img.gregs.length ≤ 224)) ∧
  (∀ (p : Params) (img : Image) (s : State), load p img = .ok s →
    s.Inv ∧ s.status = .running ∧ s.pc = img.entry ∧ s.params = p ∧ s.L = 0 ∧ s.G = min 255 (256 - img.gregs.length) ∧
    (∀ i, (h : i < img.gregs.length) → s.reg (BitVec.ofNat 8 (255 - i)) = img.gregs[i]) ∧
    (∀ k : Byte, k.toNat + img.gregs.length < 256 → s.reg k = 0) ∧ s.sr = Specials.reset ∧ s.stack = [] ∧
    s.out = ⟨[], []⟩ ∧
    (∀ a, (∀ g ∈ img.segments, ¬Covers g a) → s.mem.read a = 0) ∧
    (∀ front g later, img.segments = front ++ g :: later → ∀ i, (h : i < g.2.length) →
      (∀ j, i < j → j < g.2.length → byteAddress g j ≠ byteAddress g i) →
      (∀ g' ∈ later, ¬Covers g' (byteAddress g i)) → s.mem.read (byteAddress g i) = g.2[i])) ∧
  load {} {} = .ok State.reset

/-- The reset state meets the invariant. -/
def Obligations.ResetMeetsInvariant : Prop :=
  State.reset.Inv

/-- Every step keeps what R23, R28, R33, R41 and R403 say always holds. -/
def Obligations.StepKeepsInvariant : Prop :=
  ∀ s t : State, s.Inv → step s = .next t → t.Inv

/-- The three classes of register reads (R23, R24). -/
def Obligations.RegisterReadClasses : Prop :=
  ∀ (s : State) (k : Byte), s.L ≤ s.G → s.glob.length ≤ 256 →
    (s.G ≤ k.toNat → s.glob[k.toNat - s.G]? = some (s.reg k)) ∧ (k.toNat < s.L → s.frame[k.toNat]? = some (s.reg k)) ∧
    (s.L ≤ k.toNat → k.toNat < s.G → s.reg k = 0)

/-- The RING_LIMIT check of R25 and R33 for register writes, with the precise fault of R507. -/
def Obligations.RingLimitForbidsWrite : Prop :=
  ∀ (s : State) (i : Instr) (x : Byte) (n : Nat), destination i = some x → wellFormed i = true →
    s.params.ringLimit = some n → s.L ≤ x.toNat → x.toNat < s.G → n < s.stack.length + (x.toNat + 1) →
    Faults s .registerStackOverflow (exec i s)

/-- No instruction that stays in its register window changes a register it does not write by name (R22, R25). -/
def Obligations.RegistersChangeOnlyByName : Prop :=
  ∀ (s t : State) (i : Instr), movesWindow i = false → exec i s = .next t →
    (∀ k, destination i ≠ some k → t.reg k = s.reg k) ∧ t.G = s.G ∧
    (t.L = s.L ∨ ∃ x, destination i = some x ∧ s.marginal x = true ∧ t.L = x.toNat + 1)

/-- ADD, SUB, NEG and their immediate forms: the wrapped result, and V exactly on overflow. -/
def Obligations.SignedAddSubNeg : Prop :=
  PairDoes .add .addi (fun s _ y z v sr => v = y + z ∧ sr = s.withEvents (signedFlag (y.toInt + z.toInt))) ∧
  PairDoes .sub .subi (fun s _ y z v sr => v = y - z ∧ sr = s.withEvents (signedFlag (y.toInt - z.toInt))) ∧
  NegPairDoes .neg .negi (fun s y z v sr => v = y - z ∧ sr = s.withEvents (signedFlag (y.toInt - z.toInt)))

/-- ADDU, 2ADDU to 16ADDU, SUBU, NEGU and their immediate forms wrap without an event. -/
def Obligations.UnsignedAddSubNeg : Prop :=
  PairDoes .addu .addui (fun s _ y z v sr => v = y + z ∧ sr = s.sr) ∧
  PairDoes .twoAddu .twoAddui (fun s _ y z v sr => v = 2 * y + z ∧ sr = s.sr) ∧
  PairDoes .fourAddu .fourAddui (fun s _ y z v sr => v = 4 * y + z ∧ sr = s.sr) ∧
  PairDoes .eightAddu .eightAddui (fun s _ y z v sr => v = 8 * y + z ∧ sr = s.sr) ∧
  PairDoes .sixteenAddu .sixteenAddui (fun s _ y z v sr => v = 16 * y + z ∧ sr = s.sr) ∧
  PairDoes .subu .subui (fun s _ y z v sr => v = y - z ∧ sr = s.sr) ∧
  NegPairDoes .negu .negui (fun s y z v sr => v = y - z ∧ sr = s.sr)

/-- MUL and MULU and their immediate forms: the product, V, and the high half in rH. -/
def Obligations.Multiplication : Prop :=
  PairDoes .mul .muli (fun s _ y z v sr => v = y * z ∧ sr = s.withEvents (signedFlag (y.toInt * z.toInt))) ∧
  PairDoes .mulu .mului (fun s _ y z v sr =>
    ∃ h : Word, sr = { s.sr with rH := h } ∧ h.toNat * 2 ^ 64 + v.toNat = y.toNat * z.toNat)

/-- DIV and DIVI: the floor quotient, the remainder in rR, D on division by zero, V on the one overflow. -/
def Obligations.SignedDivision : Prop :=
  PairDoes .div .divi (fun s _ y z v sr =>
    (z = 0 → v = 0 ∧ sr = { s.withEvents 0x80#8 with rR := y }) ∧
    (y.toInt = -2 ^ 63 ∧ z.toInt = -1 → v = y ∧ sr = { s.withEvents 0x40#8 with rR := 0 }) ∧
    (z ≠ 0 → ¬(y.toInt = -2 ^ 63 ∧ z.toInt = -1) →
      ∃ r : Word, sr = { s.sr with rR := r } ∧ v.toInt * z.toInt + r.toInt = y.toInt ∧
        (0 < z.toInt ∧ 0 ≤ r.toInt ∧ r.toInt < z.toInt ∨ z.toInt < 0 ∧ z.toInt < r.toInt ∧ r.toInt ≤ 0)))

/-- DIVU and DIVUI: the 128-bit dividend rD:$Y by $Z, the remainder in rR, no event. -/
def Obligations.UnsignedDivision : Prop :=
  PairDoes .divu .divui (fun s _ y z v sr =>
    (z.toNat ≤ s.sr.rD.toNat → v = s.sr.rD ∧ sr = { s.sr with rR := y }) ∧
    (s.sr.rD.toNat < z.toNat → ∃ r : Word, sr = { s.sr with rR := r } ∧
      v.toNat * z.toNat + r.toNat = s.sr.rD.toNat * 2 ^ 64 + y.toNat ∧ r.toNat < z.toNat))

/-- CMP and CMPU and their immediate forms answer -1, 0 or 1. -/
def Obligations.IntegerComparison : Prop :=
  PairDoes .cmp .cmpi (fun s _ y z v sr => v = orderWord y.toInt z.toInt ∧ sr = s.sr) ∧
  PairDoes .cmpu .cmpui (fun s _ y z v sr => v = orderWord y.toNat z.toNat ∧ sr = s.sr)

/-- The eight bitwise operations and their immediate forms. -/
def Obligations.BitwiseLogic : Prop :=
  PairDoes .or .ori (fun s _ y z v sr => v = y ||| z ∧ sr = s.sr) ∧
  PairDoes .orn .orni (fun s _ y z v sr => v = y ||| ~~~z ∧ sr = s.sr) ∧
  PairDoes .nor .nori (fun s _ y z v sr => v = ~~~(y ||| z) ∧ sr = s.sr) ∧
  PairDoes .xor .xori (fun s _ y z v sr => v = y ^^^ z ∧ sr = s.sr) ∧
  PairDoes .and .andi (fun s _ y z v sr => v = y &&& z ∧ sr = s.sr) ∧
  PairDoes .andn .andni (fun s _ y z v sr => v = y &&& ~~~z ∧ sr = s.sr) ∧
  PairDoes .nand .nandi (fun s _ y z v sr => v = ~~~(y &&& z) ∧ sr = s.sr) ∧
  PairDoes .nxor .nxori (fun s _ y z v sr => v = ~~~(y ^^^ z) ∧ sr = s.sr)

/-- SL, SLU, SR and SRU and their immediate forms shift by the full unsigned amount. -/
def Obligations.Shifts : Prop :=
  PairDoes .sl .sli (fun s _ y z v sr => v = BitVec.ofNat 64 (y.toNat * 2 ^ z.toNat) ∧
    sr = s.withEvents (signedFlag (y.toInt * 2 ^ z.toNat))) ∧
  PairDoes .slu .slui (fun s _ y z v sr => v = BitVec.ofNat 64 (y.toNat * 2 ^ z.toNat) ∧ sr = s.sr) ∧
  PairDoes .sr .sri (fun s _ y z v sr => v = BitVec.ofInt 64 (y.toInt / 2 ^ z.toNat) ∧ sr = s.sr) ∧
  PairDoes .sru .srui (fun s _ y z v sr => v = BitVec.ofNat 64 (y.toNat / 2 ^ z.toNat) ∧ sr = s.sr)

/-- BDIF, WDIF, TDIF and ODIF and their immediate forms saturate each lane at 0. -/
def Obligations.SaturatingDifferences : Prop :=
  PairDoes .bdif .bdifi (fun s _ y z v sr => sr = s.sr ∧ ∀ i, i < 8 →
    (v.extractLsb' (8 * i) 8).toNat = (y.extractLsb' (8 * i) 8).toNat - (z.extractLsb' (8 * i) 8).toNat) ∧
  PairDoes .wdif .wdifi (fun s _ y z v sr => sr = s.sr ∧ ∀ i, i < 4 →
    (v.extractLsb' (16 * i) 16).toNat = (y.extractLsb' (16 * i) 16).toNat - (z.extractLsb' (16 * i) 16).toNat) ∧
  PairDoes .tdif .tdifi (fun s _ y z v sr => sr = s.sr ∧ ∀ i, i < 2 →
    (v.extractLsb' (32 * i) 32).toNat = (y.extractLsb' (32 * i) 32).toNat - (z.extractLsb' (32 * i) 32).toNat) ∧
  PairDoes .odif .odifi (fun s _ y z v sr => sr = s.sr ∧ ∀ i, i < 1 →
    (v.extractLsb' (64 * i) 64).toNat = (y.extractLsb' (64 * i) 64).toNat - (z.extractLsb' (64 * i) 64).toNat)

/-- MUX, SADD, MOR and MXOR and their immediate forms, stated bit by bit. -/
def Obligations.MuxCountAndMatrices : Prop :=
  PairDoes .mux .muxi (fun s _ y z v sr => sr = s.sr ∧
    ∀ i, v.getLsbD i = if s.sr.rM.getLsbD i then y.getLsbD i else z.getLsbD i) ∧
  PairDoes .sadd .saddi (fun s _ y z v sr => sr = s.sr ∧
    v.toNat = (List.range 64).countP fun i => y.getLsbD i && !z.getLsbD i) ∧
  PairDoes .mor .mori (fun s _ y z v sr => sr = s.sr ∧ ∀ m b, m < 8 → b < 8 →
    v.getLsbD (8 * m + b) = (List.range 8).any fun k => z.getLsbD (8 * m + k) && y.getLsbD (8 * k + b)) ∧
  PairDoes .mxor .mxori (fun s _ y z v sr => sr = s.sr ∧ ∀ m b, m < 8 → b < 8 →
    v.getLsbD (8 * m + b) =
      decide ((List.range 8).countP (fun k => z.getLsbD (8 * m + k) && y.getLsbD (8 * k + b)) % 2 = 1))

/-- SETH to SETL set one wyde and clear the rest, INCH to INCL add a wyde into the whole register. -/
def Obligations.WydeSetAndIncrement : Prop :=
  WydeDoes .seth (fun _ w => w ++ 0#48) ∧
  WydeDoes .setmh (fun _ w => 0#16 ++ w ++ 0#32) ∧
  WydeDoes .setml (fun _ w => 0#32 ++ w ++ 0#16) ∧
  WydeDoes .setl (fun _ w => 0#48 ++ w) ∧
  WydeDoes .inch (fun old w => old + (w ++ 0#48)) ∧
  WydeDoes .incmh (fun old w => old + (0#16 ++ w ++ 0#32)) ∧
  WydeDoes .incml (fun old w => old + (0#32 ++ w ++ 0#16)) ∧
  WydeDoes .incl (fun old w => old + (0#48 ++ w))

/-- ORH to ORL set bits of one wyde, ANDNH to ANDNL clear bits of one wyde. -/
def Obligations.WydeOrAndNot : Prop :=
  WydeDoes .orh (fun old w => old ||| (w ++ 0#48)) ∧
  WydeDoes .ormh (fun old w => old ||| (0#16 ++ w ++ 0#32)) ∧
  WydeDoes .orml (fun old w => old ||| (0#32 ++ w ++ 0#16)) ∧
  WydeDoes .orl (fun old w => old ||| (0#48 ++ w)) ∧
  WydeDoes .andnh (fun old w => old &&& ~~~(w ++ 0#48 : Word)) ∧
  WydeDoes .andnmh (fun old w => old &&& ~~~(0#16 ++ w ++ 0#32 : Word)) ∧
  WydeDoes .andnml (fun old w => old &&& ~~~(0#32 ++ w ++ 0#16 : Word)) ∧
  WydeDoes .andnl (fun old w => old &&& ~~~(0#48 ++ w : Word))

/-- The four tetras of SETI leave any 64-bit value in $X: R316, which the spec derives from R303 to R306
(42_wyde_immediate.md). -/
def Obligations.SetiSequence : Prop :=
  ∀ (s : State) (x : Byte) (v : Word), s.roomFor x = true →
    ∃ t, execAll (pseudoSeti x v) s = .next t ∧ WroteReg s x v t ∧ t.sr = s.sr ∧ t.pc = s.pc + 16 ∧ KeptMem s t ∧
      KeptRest s t ∧ t.draws = s.draws

/-- The integer loads and their immediate forms: the big-endian bytes at the effective address, extended. -/
def Obligations.IntegerLoads : Prop :=
  PairDoes .ldb .ldbi (fun s _ y z v sr => sr = s.sr ∧
    v = (let a := effective 1 (y + z); (s.mem.read a).signExtend 64)) ∧
  PairDoes .ldbu .ldbui (fun s _ y z v sr => sr = s.sr ∧
    v = (let a := effective 1 (y + z); (s.mem.read a).setWidth 64)) ∧
  PairDoes .ldw .ldwi (fun s _ y z v sr => sr = s.sr ∧
    v = (let a := effective 2 (y + z); (wydeIn s.mem a).signExtend 64)) ∧
  PairDoes .ldwu .ldwui (fun s _ y z v sr => sr = s.sr ∧
    v = (let a := effective 2 (y + z); (wydeIn s.mem a).setWidth 64)) ∧
  PairDoes .ldt .ldti (fun s _ y z v sr => sr = s.sr ∧
    v = (let a := effective 4 (y + z); (tetraIn s.mem a).signExtend 64)) ∧
  PairDoes .ldtu .ldtui (fun s _ y z v sr => sr = s.sr ∧
    v = (let a := effective 4 (y + z); (tetraIn s.mem a).setWidth 64)) ∧
  PairDoes .ldo .ldoi (fun s _ y z v sr => sr = s.sr ∧
    v = (let a := effective 8 (y + z); octaIn s.mem a)) ∧
  PairDoes .ldou .ldoui (fun s _ y z v sr => sr = s.sr ∧
    v = (let a := effective 8 (y + z); octaIn s.mem a)) ∧
  PairDoes .ldunc .ldunci (fun s _ y z v sr => sr = s.sr ∧
    v = (let a := effective 8 (y + z); octaIn s.mem a)) ∧
  PairDoes .ldht .ldhti (fun s _ y z v sr => sr = s.sr ∧
    v = (let a := effective 4 (y + z); tetraIn s.mem a ++ 0#32))

/-- LDSF and LDSFI load the binary64 of the same value as the binary32 in memory. -/
def Obligations.LoadShortFloat : Prop :=
  PairDoes .ldsf .ldsfi (fun s _ y z v sr => sr = s.sr ∧ Widens (tetraIn s.mem (effective 4 (y + z))) v)

/-- CSWAP and CSWAPI: swap on equality with rP, else load rP. -/
def Obligations.CompareAndSwap : Prop :=
  ∀ (s : State) (x y z : Byte), s.mem.wf → s.roomFor x = true →
    ∀ (i : Instr) (a : Word), (i = .cswap x y z ∧ a = s.reg y + s.reg z ∨ i = .cswapi x y z ∧ a = s.reg y + z.setWidth 64) →
      (octaIn s.mem (effective 8 a) = s.sr.rP → ∃ t, exec i s = .next t ∧ WroteReg s x 1 t ∧ WroteMem s 8 a (s.reg x) t ∧
        t.sr = s.sr ∧ t.pc = s.pc + 4 ∧ KeptRest s t ∧ t.draws = s.draws) ∧
      (octaIn s.mem (effective 8 a) ≠ s.sr.rP →
        Computes s x 0 { s.sr with rP := octaIn s.mem (effective 8 a) } (exec i s))

/-- The integer stores and their immediate forms: the low bytes big-endian at the effective address, V on overflow. -/
def Obligations.IntegerStores : Prop :=
  StorePair .stb .stbi 1 (fun s x => s.reg x) true ∧
  StorePair .stbu .stbui 1 (fun s x => s.reg x) false ∧
  StorePair .stw .stwi 2 (fun s x => s.reg x) true ∧
  StorePair .stwu .stwui 2 (fun s x => s.reg x) false ∧
  StorePair .stt .stti 4 (fun s x => s.reg x) true ∧
  StorePair .sttu .sttui 4 (fun s x => s.reg x) false ∧
  StorePair .sto .stoi 8 (fun s x => s.reg x) false ∧
  StorePair .stou .stoui 8 (fun s x => s.reg x) false ∧
  StorePair .stunc .stunci 8 (fun s x => s.reg x) false ∧
  StorePair .stht .sthti 4 (fun s x => (s.reg x).extractLsb' 32 32 |>.setWidth 64) false ∧
  StorePair .stco .stcoi 8 (fun _ x => x.setWidth 64) false

/-- STSF and STSFI store the correctly rounded binary32 of $X, with its events. -/
def Obligations.StoreShortFloat : Prop :=
  ∀ (s : State) (x y z : Byte), s.mem.wf → ∃ (w : Tetra) (ev : Byte), Shortens s.params s.modeRA (s.reg x) w ev ∧
    Stores s 4 (s.reg y + s.reg z) (w.setWidth 64) ev (exec (.stsf x y z) s) ∧
    Stores s 4 (s.reg y + z.setWidth 64) (w.setWidth 64) ev (exec (.stsfi x y z) s)

/-- What a store leaves is what any later load of the same width at the same address returns: R345, which the spec
derives from R86, R87 and R321 to R344 (43_load_store.md). -/
def Obligations.StoreLoadRoundTrip : Prop :=
  let whole (s : State) (x : Byte) : Word := s.reg x
  RoundTrips 1 [(.stb, .stbi, whole), (.stbu, .stbui, whole)]
    [(.ldb, .ldbi, fun v => (v.setWidth 8).signExtend 64), (.ldbu, .ldbui, fun v => (v.setWidth 8).setWidth 64)] ∧
  RoundTrips 2 [(.stw, .stwi, whole), (.stwu, .stwui, whole)]
    [(.ldw, .ldwi, fun v => (v.setWidth 16).signExtend 64), (.ldwu, .ldwui, fun v => (v.setWidth 16).setWidth 64)] ∧
  RoundTrips 4
    [(.stt, .stti, whole), (.sttu, .sttui, whole), (.stht, .sthti, fun s x => ((s.reg x).extractLsb' 32 32).setWidth 64),
      (.stsf, .stsfi, fun s x => (storeSf s.params s.modeRA (s.reg x)).1.setWidth 64)]
    [(.ldt, .ldti, fun v => (v.setWidth 32).signExtend 64), (.ldtu, .ldtui, fun v => (v.setWidth 32).setWidth 64)] ∧
  RoundTrips 8 [(.sto, .stoi, whole), (.stou, .stoui, whole), (.stunc, .stunci, whole), (.stco, .stcoi, fun _ x => x.setWidth 64)]
    [(.ldo, .ldoi, id), (.ldou, .ldoui, id), (.ldunc, .ldunci, id)]

/-- Translation and implicit alignment (R85, R86, R89). -/
def Obligations.ImplicitAlignment : Prop :=
  ∀ (n : Nat) (a : Word), n = 1 ∨ n = 2 ∨ n = 4 ∨ n = 8 →
    effective n a = a.toNat % 2 ^ 63 / n * n ∧ effective n (a &&& ~~~BitVec.ofNat 64 (n - 1)) = effective n a ∧
    effective n (a ^^^ 0x8000000000000000#64) = effective n a ∧ effective n a + n ≤ 2 ^ 63

/-- The conditional sets and zero-or-sets (R360, and R361-R376 one by one). -/
def Obligations.ConditionalAndZeroOrSet : Prop :=
  PairDoes .csn .csni (fun s x y z v sr => v = (if y.toInt < 0 then z else s.reg x) ∧ sr = s.sr) ∧
  PairDoes .csz .cszi (fun s x y z v sr => v = (if y = 0 then z else s.reg x) ∧ sr = s.sr) ∧
  PairDoes .csp .cspi (fun s x y z v sr => v = (if 0 < y.toInt then z else s.reg x) ∧ sr = s.sr) ∧
  PairDoes .csod .csodi (fun s x y z v sr => v = (if y.toNat % 2 = 1 then z else s.reg x) ∧ sr = s.sr) ∧
  PairDoes .csnn .csnni (fun s x y z v sr => v = (if 0 ≤ y.toInt then z else s.reg x) ∧ sr = s.sr) ∧
  PairDoes .csnz .csnzi (fun s x y z v sr => v = (if y ≠ 0 then z else s.reg x) ∧ sr = s.sr) ∧
  PairDoes .csnp .csnpi (fun s x y z v sr => v = (if y.toInt ≤ 0 then z else s.reg x) ∧ sr = s.sr) ∧
  PairDoes .csev .csevi (fun s x y z v sr => v = (if y.toNat % 2 = 0 then z else s.reg x) ∧ sr = s.sr) ∧
  PairDoes .zsn .zsni (fun s _ y z v sr => v = (if y.toInt < 0 then z else 0) ∧ sr = s.sr) ∧
  PairDoes .zsz .zszi (fun s _ y z v sr => v = (if y = 0 then z else 0) ∧ sr = s.sr) ∧
  PairDoes .zsp .zspi (fun s _ y z v sr => v = (if 0 < y.toInt then z else 0) ∧ sr = s.sr) ∧
  PairDoes .zsod .zsodi (fun s _ y z v sr => v = (if y.toNat % 2 = 1 then z else 0) ∧ sr = s.sr) ∧
  PairDoes .zsnn .zsnni (fun s _ y z v sr => v = (if 0 ≤ y.toInt then z else 0) ∧ sr = s.sr) ∧
  PairDoes .zsnz .zsnzi (fun s _ y z v sr => v = (if y ≠ 0 then z else 0) ∧ sr = s.sr) ∧
  PairDoes .zsnp .zsnpi (fun s _ y z v sr => v = (if y.toInt ≤ 0 then z else 0) ∧ sr = s.sr) ∧
  PairDoes .zsev .zsevi (fun s _ y z v sr => v = (if y.toNat % 2 = 0 then z else 0) ∧ sr = s.sr)

/-- All conditional branches (R380, and R381-R396 one by one). -/
def Obligations.ConditionalBranches : Prop :=
  BranchPair .bn .bnb (fun v => v.toInt < 0) ∧
  BranchPair .bz .bzb (fun v => v = 0) ∧
  BranchPair .bp .bpb (fun v => 0 < v.toInt) ∧
  BranchPair .bod .bodb (fun v => v.toNat % 2 = 1) ∧
  BranchPair .bnn .bnnb (fun v => 0 ≤ v.toInt) ∧
  BranchPair .bnz .bnzb (fun v => v ≠ 0) ∧
  BranchPair .bnp .bnpb (fun v => v.toInt ≤ 0) ∧
  BranchPair .bev .bevb (fun v => v.toNat % 2 = 0) ∧
  BranchPair .pbn .pbnb (fun v => v.toInt < 0) ∧
  BranchPair .pbz .pbzb (fun v => v = 0) ∧
  BranchPair .pbp .pbpb (fun v => 0 < v.toInt) ∧
  BranchPair .pbod .pbodb (fun v => v.toNat % 2 = 1) ∧
  BranchPair .pbnn .pbnnb (fun v => 0 ≤ v.toInt) ∧
  BranchPair .pbnz .pbnzb (fun v => v ≠ 0) ∧
  BranchPair .pbnp .pbnpb (fun v => v.toInt ≤ 0) ∧
  BranchPair .pbev .pbevb (fun v => v.toNat % 2 = 0)

/-- JMP, JMPB, GETA, GETAB, GO and GOI: the target, and the link register. -/
def Obligations.JumpsAndAddresses : Prop :=
  (∀ (s : State) (k : BitVec 24), GoesTo s (s.pc + BitVec.ofNat 64 (4 * k.toNat)) (exec (.jmp k) s) ∧
    GoesTo s (s.pc - BitVec.ofNat 64 (4 * (16777216 - k.toNat))) (exec (.jmpb k) s)) ∧
  (∀ (s : State) (x : Byte) (k : Wyde), s.roomFor x = true →
    Computes s x (s.pc + BitVec.ofNat 64 (4 * k.toNat)) s.sr (exec (.geta x k) s) ∧
    Computes s x (s.pc - BitVec.ofNat 64 (4 * (65536 - k.toNat))) s.sr (exec (.getab x k) s)) ∧
  (∀ (s : State) (x y z : Byte), s.roomFor x = true →
    ∀ (i : Instr) (a : Word), (i = .go x y z ∧ a = s.reg y + s.reg z ∨ i = .goi x y z ∧ a = s.reg y + z.setWidth 64) →
      ∃ t, exec i s = .next t ∧ WroteReg s x (s.pc + 4) t ∧ t.pc = (a.extractLsb' 2 62 ++ 0#2) ∧ t.sr = s.sr ∧
        KeptMem s t ∧ KeptRest s t ∧ t.draws = s.draws)

/-- PUSHJ, PUSHJB, PUSHGO and PUSHGOI hide the caller's registers, set rJ and go to the target. -/
def Obligations.PushesHideRegisters : Prop :=
  ∀ (s : State) (x y z : Byte) (k : Wyde), s.L ≤ s.G →
    ∀ (i : Instr) (a : Word),
      (i = .pushj x k ∧ a = s.pc + BitVec.ofNat 64 (4 * k.toNat) ∨
        i = .pushjb x k ∧ a = s.pc - BitVec.ofNat 64 (4 * (65536 - k.toNat)) ∨
        i = .pushgo x y z ∧ a = (s.reg y + s.reg z) &&& ~~~3#64 ∨
        i = .pushgoi x y z ∧ a = (s.reg y + z.setWidth 64) &&& ~~~3#64) →
      let h := hiddenBy s x
      (s.ringAllows (s.stack.length + h + 1) (s.L - (h + 1)) = true → Pushes s x a (exec i s)) ∧
      (s.ringAllows (s.stack.length + h + 1) (s.L - (h + 1)) = false → Faults s .registerStackOverflow (exec i s))

/-- POP gives the caller its registers back, the main result and the other results, or faults on an empty stack. -/
def Obligations.PopReturns : Prop :=
  (∀ (s : State) (x : Byte) (yz : Wyde) (below caller : List Word), s.L ≤ s.G → caller.length < 256 →
    s.stack = below ++ caller ++ [BitVec.ofNat 64 caller.length] → Pops s x yz below caller (exec (.pop x yz) s)) ∧
  (∀ (s : State) (x : Byte) (yz : Wyde), s.stack = [] → Faults s .stackUnderflow (exec (.pop x yz) s))

/-- What the caller sees after PUSHJ, a callee, and POP n,0: R404, which the spec derives from R400 and R403
(45_control_transfer.md). -/
def Obligations.CallingConvention : Prop :=
  ∀ (s t u : State) (x n : Byte) (k : Wyde), s.Inv → u.Inv → exec (.pushj x k) s = .next t → t.status = s.status →
    s.status = .running → u.stack = t.stack → u.sr.rJ = t.sr.rJ → u.G = s.G → n.toNat ≤ u.L + 1 →
    x.toNat < s.G → x.toNat + n.toNat ≤ s.G →
    ∃ v, exec (.pop n 0) u = .next v ∧ v.pc = s.pc + 4 ∧ v.stack = s.stack ∧ v.L = x.toNat + n.toNat ∧
      (∀ j : Byte, j.toNat < x.toNat → v.reg j = s.reg j) ∧ (n ≠ 0 → v.reg x = u.reg (n - 1)) ∧
      (∀ j : Byte, j.toNat + 1 < n.toNat → v.reg (x + 1 + j) = u.reg j) ∧
      (∀ j : Byte, s.G ≤ j.toNat → v.reg j = u.reg j)

/-- FADD and FSUB: the correctly rounded sum or difference, its events, and the special cases. -/
def Obligations.FloatAddSubtract : Prop :=
  RegsDo .fadd (fun s y z v sr => ∃ ev, sr = s.withEvents ev ∧ AddRule s.params s.modeRA y z v ev) ∧
  RegsDo .fsub (fun s y z v sr => ∃ ev, sr = s.withEvents ev ∧
    (((floatVal y).isNan = true ∨ (floatVal z).isNan = true) → NanResult y z v ev) ∧
    ((floatVal y).isNan = false → (floatVal z).isNan = false →
      AddRule s.params s.modeRA y (z ^^^ 0x8000000000000000#64) v ev))

/-- FMUL and FDIV (R422, R424, R429, R430). That infinity divided by zero sets Z is the model's reading of the order
of R430's cases (assumption 18). -/
def Obligations.FloatMultiplyDivide : Prop :=
  RegsDo .fmul (fun s y z v sr => ∃ ev, sr = s.withEvents ev ∧ MulRule s.params s.modeRA y z v ev) ∧
  RegsDo .fdiv (fun s y z v sr => ∃ ev, sr = s.withEvents ev ∧ DivRule s.params s.modeRA y z v ev)

/-- FREM: the exact IEEE remainder. -/
def Obligations.FloatRemainder : Prop :=
  RegsDo .frem (fun s y z v sr => ∃ ev, sr = s.withEvents ev ∧ RemRule s.params y z v ev)

/-- FSQRT and FINT: the correctly rounded square root, and the rounding to an integral value. -/
def Obligations.SquareRootAndIntegral : Prop :=
  RoundedDoes .fsqrt (fun s z => s.reg z) (fun s mode z v sr => ∃ ev, sr = s.withEvents ev ∧ SqrtRule s.params mode z v ev) ∧
  RoundedDoes .fint (fun s z => s.reg z) (fun s mode z v sr => ∃ ev, sr = s.withEvents ev ∧ IntRule mode z v ev)

/-- FIX and FIXU: the rounded integer modulo 2^64, W and X. -/
def Obligations.FloatToInteger : Prop :=
  RoundedDoes .fix (fun s z => s.reg z) (fun s mode z v sr =>
    ∃ ev, sr = s.withEvents ev ∧ FixRule true mode z v ev) ∧
  RoundedDoes .fixu (fun s z => s.reg z) (fun s mode z v sr =>
    ∃ ev, sr = s.withEvents ev ∧ FixRule false mode z v ev)

/-- FLOT, FLOTU, SFLOT, SFLOTU and their immediate forms: the correctly rounded conversion of an integer. -/
def Obligations.IntegerToFloat : Prop :=
  RoundedDoes .flot (fun s z => s.reg z) (fun s mode z v sr => ∃ ev, sr = s.withEvents ev ∧
    RoundedResult s.params mode false (z.toInt : ℚ) v ev) ∧
  RoundedDoes .floti (fun _ z => z.setWidth 64) (fun s mode z v sr => ∃ ev, sr = s.withEvents ev ∧
    RoundedResult s.params mode false (z.toInt : ℚ) v ev) ∧
  RoundedDoes .flotu (fun s z => s.reg z) (fun s mode z v sr => ∃ ev, sr = s.withEvents ev ∧
    RoundedResult s.params mode false (z.toNat : ℚ) v ev) ∧
  RoundedDoes .flotui (fun _ z => z.setWidth 64) (fun s mode z v sr => ∃ ev, sr = s.withEvents ev ∧
    RoundedResult s.params mode false (z.toNat : ℚ) v ev) ∧
  RoundedDoes .sflot (fun s z => s.reg z) (fun s mode z v sr => ∃ (w : Tetra) (ev : Byte),
    sr = s.withEvents ev ∧ Widens w v ∧
    RoundsTo binary32 s.params mode (decide ((z.toInt : ℚ) < 0)) (cmpRat (|(z.toInt : ℚ)| * 2 ^ 149)) w.toNat ev) ∧
  RoundedDoes .sfloti (fun _ z => z.setWidth 64) (fun s mode z v sr => ∃ (w : Tetra) (ev : Byte),
    sr = s.withEvents ev ∧ Widens w v ∧
    RoundsTo binary32 s.params mode (decide ((z.toInt : ℚ) < 0)) (cmpRat (|(z.toInt : ℚ)| * 2 ^ 149)) w.toNat ev) ∧
  RoundedDoes .sflotu (fun s z => s.reg z) (fun s mode z v sr => ∃ (w : Tetra) (ev : Byte),
    sr = s.withEvents ev ∧ Widens w v ∧
    RoundsTo binary32 s.params mode (decide ((z.toNat : ℚ) < 0)) (cmpRat (|(z.toNat : ℚ)| * 2 ^ 149)) w.toNat ev) ∧
  RoundedDoes .sflotui (fun _ z => z.setWidth 64) (fun s mode z v sr => ∃ (w : Tetra) (ev : Byte),
    sr = s.withEvents ev ∧ Widens w v ∧
    RoundsTo binary32 s.params mode (decide ((z.toNat : ℚ) < 0)) (cmpRat (|(z.toNat : ℚ)| * 2 ^ 149)) w.toNat ev)

/-- FCMP, FUN and FEQL order the data in the extended reals; a NaN is unordered. -/
def Obligations.FloatComparisons : Prop :=
  RegsDo .fcmp (fun s y z v sr =>
    (((floatVal y).isNan = true ∨ (floatVal z).isNan = true) → v = 0 ∧ sr = s.withEvents 0x10#8) ∧
    ((floatVal y).isNan = false → (floatVal z).isNan = false →
      v = orderWord (floatVal y).position (floatVal z).position ∧ sr = s.sr)) ∧
  RegsDo .funop (fun s y z v sr => sr = s.sr ∧
    v = if (floatVal y).isNan = true ∨ (floatVal z).isNan = true then 1 else 0) ∧
  RegsDo .feql (fun s y z v sr => sr = s.sr ∧
    v = if (floatVal y).isNan = false ∧ (floatVal z).isNan = false ∧ (floatVal y).position = (floatVal z).position
      then 1 else 0)

/-- The comparisons with respect to rE (R444-R447; an infinite tolerance by assumption 9). -/
def Obligations.EpsilonComparisons : Prop :=
  RegsDo .fcmpe (fun s y z v sr =>
    (Unordered s.sr.rE y z → v = 0 ∧ sr = s.withEvents 0x10#8) ∧
    (¬Unordered s.sr.rE y z → sr = s.sr ∧
      ((Near (floatVal s.sr.rE) (floatVal z) (floatVal y) ∨ Near (floatVal s.sr.rE) (floatVal y) (floatVal z)) → v = 0) ∧
      (¬(Near (floatVal s.sr.rE) (floatVal z) (floatVal y) ∨ Near (floatVal s.sr.rE) (floatVal y) (floatVal z)) →
        v = orderWord (floatVal y).position (floatVal z).position))) ∧
  RegsDo .fune (fun s y z v sr => sr = s.sr ∧ (Unordered s.sr.rE y z → v = 1) ∧ (¬Unordered s.sr.rE y z → v = 0)) ∧
  RegsDo .feqle (fun s y z v sr => sr = s.sr ∧ (Unordered s.sr.rE y z → v = 0) ∧
    (¬Unordered s.sr.rE y z →
      ((Near (floatVal s.sr.rE) (floatVal z) (floatVal y) ∧ Near (floatVal s.sr.rE) (floatVal y) (floatVal z)) → v = 1) ∧
      (¬(Near (floatVal s.sr.rE) (floatVal z) (floatVal y) ∧ Near (floatVal s.sr.rE) (floatVal y) (floatVal z)) → v = 0)))

/-- The corner cases of R445 and R447: with rE = 0 (reset) the comparisons are exact. -/
def Obligations.ZeroToleranceIsExact : Prop :=
  ∀ (s : State) (x y z : Byte), s.sr.rE = 0 → (floatVal (s.reg y)).isNan = false → (floatVal (s.reg z)).isNan = false →
    exec (.fcmpe x y z) s = exec (.fcmp x y z) s ∧ exec (.feqle x y z) s = exec (.feql x y z) s

/-- The fourteen hints advance pc and change nothing else. -/
def Obligations.HintsOnlyAdvance : Prop :=
  ∀ (s : State) (i : Instr), i ∈ [Instr.preld, .preldi, .prego, .pregoi, .prest, .presti, .swym, .syncid, .syncidi, .sync,
    .syncd, .syncdi, .ldvts, .ldvtsi] → GoesTo s (s.pc + 4) (exec i s)

/-- GET of each of the 32 special registers (R476); the values of rN and of the draws are the model's opaque constants
(assumptions 2, 3). -/
def Obligations.GetReadsSpecials : Prop :=
  ∀ (s : State) (x z : Byte), s.roomFor x = true → z.toNat < 32 →
    ∃ t v, exec (.get x 0 z) s = .next t ∧ WroteReg s x v t ∧ t.sr = s.sr ∧ t.pc = s.pc + 4 ∧ KeptMem s t ∧ KeptRest s t ∧
      (t.draws = if z ∈ [8#8, 12#8, 17#8] then s.draws + 1 else s.draws) ∧
      (z ∈ [8#8, 12#8, 17#8] → v = Config.counterRead s.draws) ∧
      (z = 9#8 → v = Config.rnValue) ∧
      (z = 10#8 → v = 0x6000000000000000#64 + BitVec.ofNat 64 (8 * s.stack.length)) ∧
      (z = 11#8 → v = 0x6000000000000000#64) ∧ (z = 19#8 → v = BitVec.ofNat 64 s.G) ∧ (z = 20#8 → v = BitVec.ofNat 64 s.L) ∧
      (z = 0#8 → v = s.sr.rB) ∧ (z = 1#8 → v = s.sr.rD) ∧ (z = 2#8 → v = s.sr.rE) ∧ (z = 3#8 → v = s.sr.rH) ∧
      (z = 4#8 → v = s.sr.rJ) ∧ (z = 5#8 → v = s.sr.rM) ∧ (z = 6#8 → v = s.sr.rR) ∧ (z = 7#8 → v = s.sr.rBB) ∧
      (z = 13#8 → v = s.sr.rT) ∧ (z = 14#8 → v = s.sr.rTT) ∧ (z = 15#8 → v = s.sr.rK) ∧ (z = 16#8 → v = s.sr.rQ) ∧
      (z = 18#8 → v = s.sr.rV) ∧ (z = 21#8 → v = s.sr.rA) ∧ (z = 22#8 → v = s.sr.rF) ∧ (z = 23#8 → v = s.sr.rP) ∧
      (z = 24#8 → v = s.sr.rW) ∧ (z = 25#8 → v = s.sr.rX) ∧ (z = 26#8 → v = s.sr.rY) ∧ (z = 27#8 → v = s.sr.rZ) ∧
      (z = 28#8 → v = s.sr.rWW) ∧ (z = 29#8 → v = s.sr.rXX) ∧ (z = 30#8 → v = s.sr.rYY) ∧ (z = 31#8 → v = s.sr.rZZ)

/-- PUT and PUTI: the register they name gets the value, rA, rG and rL by their own rules. -/
def Obligations.PutWritesSpecials : Prop :=
  ∀ (s : State) (x z : Byte), s.Inv →
    ∀ (i : Instr) (v : Word), (i = .put x 0 z ∧ v = s.reg z ∨ i = .puti x 0 z ∧ v = z.setWidth 64) →
      (∀ r, specialOf x = some r → r ∈ [SpecialReg.rB, .rD, .rE, .rH, .rJ, .rM, .rR, .rBB, .rF, .rP, .rW, .rX, .rY, .rZ,
          .rWW, .rXX, .rYY, .rZZ, .rA] → (r = .rA → v.toNat < 2 ^ 18) →
        ∃ t, exec i s = .next t ∧ t.special r = v ∧ (∀ r', r' ≠ r → t.special r' = s.special r') ∧ t.pc = s.pc + 4 ∧
          KeptRegs s t ∧ KeptMem s t ∧ KeptRest s t ∧ t.draws = s.draws) ∧
      (x = 19#8 → 32 ≤ v.toNat → v.toNat ≤ 255 → s.L ≤ v.toNat →
        ∃ t, exec i s = .next t ∧ t.G = v.toNat ∧ t.L = s.L ∧
          (∀ k : Byte, t.reg k = if k.toNat < s.L ∨ s.G ≤ k.toNat ∧ v.toNat ≤ k.toNat then s.reg k else 0) ∧
          t.sr = s.sr ∧ t.pc = s.pc + 4 ∧ KeptMem s t ∧ KeptRest s t ∧ t.draws = s.draws) ∧
      (x = 21#8 → 2 ^ 18 ≤ v.toNat → Faults s .illegalInstruction (exec i s)) ∧
      (x = 19#8 → (v.toNat < 32 ∨ 255 < v.toNat ∨ v.toNat < s.L) → Faults s .illegalInstruction (exec i s)) ∧
      (x = 20#8 →
        ∃ t, exec i s = .next t ∧ t.L = min s.L v.toNat ∧ t.G = s.G ∧
          (∀ k : Byte, t.reg k = if k.toNat < min s.L v.toNat ∨ s.G ≤ k.toNat then s.reg k else 0) ∧
          t.sr = s.sr ∧ t.pc = s.pc + 4 ∧ KeptMem s t ∧ KeptRest s t ∧ t.draws = s.draws)

/-- The illegal fields and values of R130 but the opcode outside IMPLEMENTED (R127, R128, R477-R479, R493, R495). -/
def Obligations.IllegalFieldsFault : Prop :=
  ∀ (s : State) (x y z : Byte),
    (5 ≤ y.toNat → ∀ i ∈ [Instr.fix x y z, .fixu x y z, .flot x y z, .floti x y z, .flotu x y z, .flotui x y z,
      .sflot x y z, .sfloti x y z, .sflotu x y z, .sflotui x y z, .fsqrt x y z, .fint x y z],
      Faults s .illegalInstruction (exec i s)) ∧
    ((y ≠ 0 ∨ 32 ≤ z.toNat) → Faults s .illegalInstruction (exec (.get x y z) s)) ∧
    (∀ (i : Instr) (v : Word), (i = .put x y z ∧ v = s.reg z ∨ i = .puti x y z ∧ v = z.setWidth 64) →
      ((y ≠ 0 ∨ 32 ≤ x.toNat ∨ 9 ≤ x.toNat ∧ x.toNat ≤ 11 ∨ x = 21#8 ∧ 2 ^ 18 ≤ v.toNat ∨
        x = 19#8 ∧ (v.toNat < 32 ∨ 255 < v.toNat ∨ v.toNat < s.L)) → Faults s .illegalInstruction (exec i s)) ∧
      (y = 0 → (x = 8#8 ∨ 12 ≤ x.toNat ∧ x.toNat ≤ 18) → Faults s .privileged (exec i s))) ∧
    (z = 1#8 → Faults s .privileged (exec (.resume x y z) s)) ∧
    (2 ≤ z.toNat → Faults s .illegalInstruction (exec (.resume x y z) s)) ∧
    (z = 0#8 → s.sr.rX.msb = false → Faults s .unimplemented (exec (.resume x y z) s)) ∧
    (y ≠ 0 → y ≠ 7#8 → Faults s .unhandledTrap (exec (.trap x y z) s))

/-- SAVE writes the context octa by octa and leaves the address of its last octa in $X. -/
def Obligations.SaveLaysOutContext : Prop :=
  ∀ (s : State) (x y z : Byte), s.Inv → s.roomFor x = true →
    let a := s.reg x &&& ~~~7#64
    let n := s.L + (256 - s.G)
    let slot (i : Nat) : Nat := effective 8 (a + BitVec.ofNat 64 (8 * i))
    ∃ t, exec (.save x y z) s = .next t ∧ WroteReg s x (a + BitVec.ofNat 64 (8 * (n + 12))) t ∧ t.sr = s.sr ∧
      t.pc = s.pc + 4 ∧ KeptRest s t ∧ t.draws = s.draws ∧
      (∀ i, i < s.L → octaIn t.mem (slot i) = s.reg (BitVec.ofNat 8 i)) ∧
      (∀ k : Byte, s.G ≤ k.toNat → octaIn t.mem (slot (s.L + (k.toNat - s.G))) = s.reg k) ∧
      (∀ j, (h : j < 12) → octaIn t.mem (slot (n + j)) =
        [s.sr.rB, s.sr.rD, s.sr.rE, s.sr.rH, s.sr.rJ, s.sr.rM, s.sr.rR, s.sr.rP, s.sr.rW, s.sr.rX, s.sr.rY, s.sr.rZ][j]) ∧
      octaIn t.mem (slot (n + 12)) = BitVec.ofNat 8 s.G ++ BitVec.ofNat 8 s.L ++ 0#30 ++ s.sr.rA.setWidth 18 ∧
      (∀ b, (∀ i, i < n + 13 → b < slot i ∨ slot i + 8 ≤ b) → t.mem.read b = s.mem.read b)

/-- UNSAVE (R482); that RING_LIMIT is checked here too is the model's reading of 10_state.md R33 (assumption 7). -/
def Obligations.UnsaveRestoresContext : Prop :=
  ∀ (s : State) (x y z : Byte),
    let f := s.reg z &&& ~~~7#64
    let oct (a : Word) : Word := octaIn s.mem (effective 8 a)
    let g := ((oct f).extractLsb' 56 8).toNat
    let l := ((oct f).extractLsb' 48 8).toNat
    let b := f - 96
    let g0 := b - BitVec.ofNat 64 (8 * (256 - g))
    let a := g0 - BitVec.ofNat 64 (8 * l)
    ((g < 32 ∨ g < l) → Faults s .illegalInstruction (exec (.unsave x y z) s)) ∧
    (32 ≤ g → l ≤ g → s.ringAllows s.stack.length l = false → Faults s .registerStackOverflow (exec (.unsave x y z) s)) ∧
    (32 ≤ g → l ≤ g → s.ringAllows s.stack.length l = true →
      ∃ t, exec (.unsave x y z) s = .next t ∧ t.G = g ∧ t.L = l ∧
        (∀ k : Byte, k.toNat < l → t.reg k = oct (a + BitVec.ofNat 64 (8 * k.toNat))) ∧
        (∀ k : Byte, l ≤ k.toNat → k.toNat < g → t.reg k = 0) ∧
        (∀ k : Byte, g ≤ k.toNat → t.reg k = oct (g0 + BitVec.ofNat 64 (8 * (k.toNat - g)))) ∧
        t.sr =
          { s.sr with
            rB := oct b, rD := oct (b + 8), rE := oct (b + 16), rH := oct (b + 24), rJ := oct (b + 32)
            rM := oct (b + 40), rR := oct (b + 48), rP := oct (b + 56), rW := oct (b + 64), rX := oct (b + 72)
            rY := oct (b + 80), rZ := oct (b + 88), rA := ((oct f).extractLsb' 0 18).setWidth 64 } ∧
        t.pc = s.pc + 4 ∧ KeptMem s t ∧ KeptRest s t ∧ t.draws = s.draws)

/-- UNSAVE of what SAVE wrote restores the context: R483, which the spec derives from R481 and R482 (47_system.md). -/
def Obligations.SaveUnsaveRoundTrip : Prop :=
  ∀ (s t u : State) (x z : Byte), s.Inv → s.roomFor x = true → exec (.save x 0 0) s = .next t → KeptMem t u →
    u.stack = s.stack → u.params = s.params → u.reg z = t.reg x →
    ∃ v, exec (.unsave 0 0 z) u = .next v ∧ v.G = s.G ∧ v.L = s.L ∧ (∀ k, v.reg k = s.reg k) ∧
      v.sr =
        { u.sr with
          rA := s.sr.rA, rB := s.sr.rB, rD := s.sr.rD, rE := s.sr.rE, rH := s.sr.rH, rJ := s.sr.rJ, rM := s.sr.rM
          rR := s.sr.rR, rP := s.sr.rP, rW := s.sr.rW, rX := s.sr.rX, rY := s.sr.rY, rZ := s.sr.rZ } ∧
      v.stack = s.stack

/-- TRAP 0 halts with the code Z, TRAP 7 writes the string at $255 to the stream Z (R490, R492). The draw in $255 and
the counter of draws are the model's (assumption 3, DESIGN CHOICE). -/
def Obligations.TrapHaltAndFputs : Prop :=
  (∀ (s : State) (x z : Byte), ∃ t, exec (.trap x 0 z) s = .next t ∧ t.status = .halted z ∧ t.pc = s.pc + 4 ∧
    t.sr = s.sr ∧ KeptRegs s t ∧ KeptMem s t ∧ t.stack = s.stack ∧ t.out = s.out ∧ t.params = s.params ∧
    t.draws = s.draws) ∧
  (∀ (s : State) (x z : Byte) (bs : List Byte), s.roomFor 255 = true → (z = 1#8 ∨ z = 2#8) →
    (∀ i, (h : i < bs.length) → s.mem.read (effective 1 (s.reg 255 + BitVec.ofNat 64 i)) = bs[i] ∧ bs[i] ≠ 0) →
    s.mem.read (effective 1 (s.reg 255 + BitVec.ofNat 64 bs.length)) = 0 →
    ∃ t, exec (.trap x 7 z) s = .next t ∧ WroteReg s 255 (Config.fputsResult s.draws) t ∧
      t.out.stdOut = (if z = 1#8 then s.out.stdOut ++ bs else s.out.stdOut) ∧
      t.out.stdErr = (if z = 2#8 then s.out.stdErr ++ bs else s.out.stdErr) ∧
      t.pc = s.pc + 4 ∧ t.sr = s.sr ∧ KeptMem s t ∧ t.stack = s.stack ∧ t.status = s.status ∧ t.params = s.params ∧
      t.draws = s.draws + 1) ∧
  (∀ (s : State) (x z : Byte), z ≠ 1#8 → z ≠ 2#8 → Faults s .badHandle (exec (.trap x 7 z) s))

/-- The trip and its return (R494, R495; the handler at address 0, R515). -/
def Obligations.TripAndResume : Prop :=
  (∀ (s : State) (x y z : Byte), s.roomFor 255 = true →
    ∃ t, exec (.trip x y z) s = .next t ∧ WroteReg s 255 s.sr.rJ t ∧ t.pc = 0 ∧
      t.sr =
        { s.sr with
          rX := 0x80000000#32 ++ (0xFF#8 ++ x ++ y ++ z)
          rY := s.reg y, rZ := s.reg z, rB := s.reg 255, rW := s.pc + 4 } ∧
      KeptMem s t ∧ KeptRest s t ∧ t.draws = s.draws) ∧
  (∀ (s : State) (x y : Byte), s.sr.rX.msb = true → GoesTo s (s.sr.rW &&& ~~~3#64) (exec (.resume x y 0) s))

/-- A fault leaves the state before the instruction, but for the status and the I bit. -/
def Obligations.FaultsArePrecise : Prop :=
  ∀ (s t : State) (i : Instr) (r : FaultReason), s.status = .running → exec i s = .next t → t.status = .faulted r →
    Faults s r (.next t)

/-- Events are only ORed in (R501), and only PUT rA and UNSAVE write rA otherwise (R43). -/
def Obligations.EventsOnlyAccumulate : Prop :=
  ∀ (s t : State) (i : Instr), (∀ x y z, i ≠ .put x y z ∧ i ≠ .puti x y z ∧ i ≠ .unsave x y z) → exec i s = .next t →
    ∃ ev : Byte, t.sr.rA = s.sr.rA ||| ev.setWidth 64

/-- Who may change memory (R84, R91), S (R31), the output (R491), the special registers (R40, R44, R47, R49) and pc
(R27), and who halts (R508). -/
def Obligations.StateChangesOnlyByName : Prop :=
  ∀ (s t : State) (i : Instr), exec i s = .next t →
    (mayStore i = false → KeptMem s t) ∧
    ((∀ x y z k, i ≠ .pushj x k ∧ i ≠ .pushjb x k ∧ i ≠ .pushgo x y z ∧ i ≠ .pushgoi x y z ∧ i ≠ .pop x k) →
      t.stack = s.stack) ∧
    ((∀ x y z, i ≠ .trap x y z) → t.out = s.out) ∧
    (∀ r, r ∉ [SpecialReg.rA, .rL, .rC, .rI, .rU] → opcode i ∉ writersOf r → t.special r = s.special r) ∧
    (transfersControl (opcode i) = false → t.pc = s.pc + 4 ∨ t.pc = s.pc ∧ ∃ f, t.status = .faulted f) ∧
    (∀ c, s.status = .running → t.status = .halted c → ∃ x, i = .trap x 0 c) ∧
    t.params = s.params ∧
    ((∀ x y z, i ≠ .get x y z ∧ i ≠ .trap x y z) → t.draws = s.draws)
end

