-- ==== Sys2Proof/Laws/Decode.lean ====
section
/-! SUPPORT. The fields of a word put together from its four bytes, and of the encoder's words (30_encoding.md R121). -/

namespace Sys2Proof

@[simp] theorem wordOp_append (op : Byte) (rest : BitVec 24) : wordOp (op ++ rest) = op := by
  apply BitVec.eq_of_toNat_eq
  have := rest.isLt
  rw [wordOp, BitVec.extractLsb'_toNat, BitVec.toNat_append, Nat.shiftRight_eq_div_pow, ← Nat.shiftLeft_add_eq_or_of_lt this,
    Nat.shiftLeft_eq]
  have := op.isLt
  omega

theorem word_toNat (op x y z : Byte) :
    (op ++ (x ++ y ++ z) : Tetra).toNat = op.toNat * 2 ^ 24 + x.toNat * 2 ^ 16 + y.toNat * 2 ^ 8 + z.toNat := by
  have := z.isLt
  have := (x ++ y ++ z).isLt
  have := y.isLt
  rw [BitVec.toNat_append, ← Nat.shiftLeft_add_eq_or_of_lt (x ++ y ++ z).isLt, BitVec.toNat_append,
    ← Nat.shiftLeft_add_eq_or_of_lt z.isLt, BitVec.toNat_append, ← Nat.shiftLeft_add_eq_or_of_lt y.isLt]
  simp only [Nat.shiftLeft_eq]
  omega

theorem wordX_bytes (op x y z : Byte) : wordX (op ++ (x ++ y ++ z)) = x := by
  apply BitVec.eq_of_toNat_eq
  have := x.isLt
  have := y.isLt
  have := z.isLt
  rw [wordX, BitVec.extractLsb'_toNat, word_toNat, Nat.shiftRight_eq_div_pow]
  omega

theorem wordY_bytes (op x y z : Byte) : wordY (op ++ (x ++ y ++ z)) = y := by
  apply BitVec.eq_of_toNat_eq
  have := x.isLt
  have := y.isLt
  have := z.isLt
  rw [wordY, BitVec.extractLsb'_toNat, word_toNat, Nat.shiftRight_eq_div_pow]
  omega

theorem wordZ_bytes (op x y z : Byte) : wordZ (op ++ (x ++ y ++ z)) = z := by
  apply BitVec.eq_of_toNat_eq
  have := x.isLt
  have := y.isLt
  have := z.isLt
  rw [wordZ, BitVec.extractLsb'_toNat, word_toNat, Nat.shiftRight_eq_div_pow]
  omega

/-- A word is the four bytes of its fields. -/
theorem word_eq_fields (w : Tetra) : w = wordOp w ++ (wordX w ++ wordY w ++ wordZ w) := by
  apply BitVec.eq_of_toNat_eq
  rw [word_toNat]
  simp only [wordOp, wordX, wordY, wordZ, BitVec.extractLsb'_toNat, Nat.shiftRight_eq_div_pow]
  have := w.isLt
  omega

theorem toNat_append_three (x y z : Byte) : (x ++ y ++ z : BitVec 24).toNat = x.toNat * 2^16 + y.toNat * 2^8 + z.toNat := by
  have := z.isLt
  have := y.isLt
  rw [BitVec.toNat_append, ← Nat.shiftLeft_add_eq_or_of_lt z.isLt, BitVec.toNat_append,
    ← Nat.shiftLeft_add_eq_or_of_lt y.isLt]
  simp only [Nat.shiftLeft_eq]
  omega

theorem wyde_split (yz : Wyde) : yz = (yz.extractLsb' 8 8 ++ yz.extractLsb' 0 8 : Wyde) := by
  apply BitVec.eq_of_toNat_eq
  rw [BitVec.toNat_append, ← Nat.shiftLeft_add_eq_or_of_lt (yz.extractLsb' 0 8).isLt]
  have := yz.isLt
  simp only [BitVec.extractLsb'_toNat, Nat.shiftRight_eq_div_pow, Nat.shiftLeft_eq]
  omega

theorem field24_split (v : BitVec 24) : v = (v.extractLsb' 16 8 ++ v.extractLsb' 8 8 ++ v.extractLsb' 0 8 : BitVec 24) := by
  apply BitVec.eq_of_toNat_eq
  rw [toNat_append_three]
  have := v.isLt
  simp only [BitVec.extractLsb'_toNat, Nat.shiftRight_eq_div_pow]
  omega

theorem decode_word_bytes (op x y z : Byte) : decode (op ++ (x ++ y ++ z)) = opcodeMap op x y z := by
  rw [decode, wordOp_append, wordX_bytes, wordY_bytes, wordZ_bytes]

theorem decode_word_wyde (op x : Byte) (yz : Wyde) : decode (op ++ (x ++ yz : BitVec 24)) = opcodeMap op x (yz.extractLsb' 8 8) (yz.extractLsb' 0 8) := by
  conv_lhs => rw [wyde_split yz]
  have : (op ++ (x ++ (yz.extractLsb' 8 8 ++ yz.extractLsb' 0 8 : Wyde) : BitVec 24) : Tetra) = op ++ (x ++ yz.extractLsb' 8 8 ++ yz.extractLsb' 0 8) := by
    congr 1
    apply BitVec.eq_of_toNat_eq
    rw [toNat_append_three, BitVec.toNat_append, BitVec.toNat_append]
    have := (yz.extractLsb' 8 8).isLt
    have := (yz.extractLsb' 0 8).isLt
    rw [← Nat.shiftLeft_add_eq_or_of_lt (yz.extractLsb' 0 8).isLt, ← Nat.shiftLeft_add_eq_or_of_lt (by simp only [Nat.shiftLeft_eq]; omega)]
    simp only [Nat.shiftLeft_eq]
    omega
  rw [this, decode_word_bytes]

theorem decode_word_field24 (op : Byte) (v : BitVec 24) : decode (op ++ v) = opcodeMap op (v.extractLsb' 16 8) (v.extractLsb' 8 8) (v.extractLsb' 0 8) := by
  conv_lhs => rw [field24_split v]
  exact decode_word_bytes _ _ _ _

end Sys2Proof
end

