-- ==== Sys2Proof/Laws/Memory.lean ====
section
/-! SUPPORT. The laws of memory: a write keeps the canonical form, is read back at its own address and leaves every
other address alone; the same for the accesses of several bytes (20_memory.md R80, R86-R89). -/

namespace Sys2Proof.Machine

/-! ### One byte -/

theorem Memory.wf_tail {c : Host.Cell} {m : Memory} (h : Memory.wf (c :: m)) : Memory.wf m :=
  ⟨(List.pairwise_cons.1 h.1).2, fun d hd => h.2 d (List.mem_cons_of_mem _ hd)⟩

/-- An address below every listed one reads 0. -/
theorem Memory.read_of_lt (m : Memory) (a : Nat) (h : ∀ c ∈ m, a < c.1) : m.read a = 0 := by
  induction m with
  | nil => rfl
  | cons c m ih =>
    obtain ⟨c, b⟩ := c
    have h1 : a < c := h (c, b) (by simp)
    rw [Memory.read, if_neg (by omega)]
    exact ih fun d hd => h d (List.mem_cons_of_mem _ hd)

theorem Memory.read_tail_of_le {c : Host.Cell} {m : Memory} (h : Memory.wf (c :: m)) {a : Nat} (ha : a ≤ c.1) :
    m.read a = 0 :=
  Memory.read_of_lt m a fun d hd => Nat.lt_of_le_of_lt ha ((List.pairwise_cons.1 h.1).1 d hd)

/-- A byte is read back as it was written, and every other one as before (R88). -/
theorem Memory.read_write (m : Memory) (h : m.wf) (a : Nat) (b : Byte) (a' : Nat) :
    (m.write a b).read a' = if a' = a then b else m.read a' := by
  induction m with
  | nil =>
    rw [Memory.write]
    split
    · subst_vars
      split <;> rfl
    · rfl
  | cons c m ih =>
    have ih := ih (Memory.wf_tail h)
    obtain ⟨c, d⟩ := c
    rw [Memory.write]
    split
    · rename_i hac
      by_cases hb : b = 0
      · rw [if_pos hb]
        split
        · subst_vars
          rw [Memory.read, if_neg (by omega)]
          exact Memory.read_tail_of_le h (Nat.le_of_lt hac)
        · rfl
      · rw [if_neg hb, Memory.read]
    · split
      · rename_i _ hac
        subst hac
        by_cases hb : b = 0
        · rw [if_pos hb]
          split
          · subst_vars
            exact Memory.read_tail_of_le h (Nat.le_refl _)
          · rename_i hne
            rw [Memory.read, if_neg hne]
        · rw [if_neg hb, Memory.read, Memory.read]
          split <;> rfl
      · rename_i hlt hne
        rw [Memory.read, Memory.read, ih]
        split
        · subst_vars
          split
          · omega
          · rfl
        · rfl

theorem Memory.mem_write {m : Memory} {a : Nat} {b : Byte} {c : Host.Cell} (h : c ∈ m.write a b) :
    c = (a, b) ∧ b ≠ 0 ∨ c ∈ m := by
  induction m with
  | nil =>
    rw [Memory.write] at h
    split at h <;> simp_all
  | cons e m ih =>
    obtain ⟨e, d⟩ := e
    rw [Memory.write] at h
    split at h
    · split at h <;> simp_all
    · split at h
      · split at h
        · exact .inr (List.mem_cons_of_mem _ h)
        · rcases List.mem_cons.1 h with h | h
          · exact .inl ⟨h, ‹_›⟩
          · exact .inr (List.mem_cons_of_mem _ h)
      · rcases List.mem_cons.1 h with h | h
        · exact .inr (by simp [h])
        · exact (ih h).imp id (List.mem_cons_of_mem _)

/-- A write keeps the canonical form. -/
theorem Memory.write_wf {m : Memory} (h : m.wf) {a : Nat} (ha : a < 2 ^ 63) (b : Byte) : (m.write a b).wf := by
  refine ⟨?_, fun c hc => ?_⟩
  · induction m with
    | nil =>
      rw [Memory.write]
      split <;> simp
    | cons c m ih =>
      have hall := (List.pairwise_cons.1 h.1).1
      have htail := (List.pairwise_cons.1 h.1).2
      have ih := ih (Memory.wf_tail h)
      obtain ⟨c, d⟩ := c
      rw [Memory.write]
      split
      · rename_i hac
        split
        · exact h.1
        · refine List.pairwise_cons.2 ⟨fun e he => ?_, h.1⟩
          rcases List.mem_cons.1 he with rfl | he
          · exact hac
          · exact Nat.lt_trans hac (hall e he)
      · split
        · rename_i _ hac
          subst hac
          split
          · exact htail
          · exact List.pairwise_cons.2 ⟨hall, htail⟩
        · refine List.pairwise_cons.2 ⟨fun e he => ?_, ih⟩
          rcases Memory.mem_write he with ⟨rfl, _⟩ | he
          · show c < a
            omega
          · exact hall e he
  · rcases Memory.mem_write hc with ⟨rfl, hb⟩ | hc
    · exact ⟨ha, hb⟩
    · exact h.2 c hc

/-! ### Several bytes -/

theorem Memory.writeN_wf {m : Memory} (h : m.wf) {a n : Nat} (ha : a + n ≤ 2 ^ 63) (v : Nat) : (m.writeN a n v).wf := by
  induction n generalizing v with
  | zero => exact h
  | succ n ih => exact Memory.write_wf (ih (by omega) _) (by omega) _

/-- Byte `i` of an access of `n` bytes is the big-endian one (R82); every other address reads as before. -/
theorem Memory.read_writeN {m : Memory} (h : m.wf) {a n : Nat} (ha : a + n ≤ 2 ^ 63) (v a' : Nat) :
    (m.writeN a n v).read a' =
      if a ≤ a' ∧ a' < a + n then BitVec.ofNat 8 (v / 256 ^ (a + n - 1 - a')) else m.read a' := by
  induction n generalizing v with
  | zero =>
    rw [if_neg (by omega)]
    rfl
  | succ n ih =>
    rw [Memory.writeN, Memory.read_write _ (Memory.writeN_wf h (by omega) _), ih (by omega)]
    by_cases h1 : a' = a + n
    · subst h1
      simp
    · by_cases h2 : a ≤ a' ∧ a' < a + n
      · rw [if_neg h1, if_pos h2, if_pos (by omega), Nat.div_div_eq_div_mul]
        congr 2
        rw [show a + (n + 1) - 1 - a' = (a + n - 1 - a') + 1 by omega, Nat.pow_succ, Nat.mul_comm]
      · rw [if_neg h1, if_neg h2, if_neg (by omega)]

theorem Memory.readN_congr {m m' : Memory} {a n : Nat} (h : ∀ i < n, m.read (a + i) = m'.read (a + i)) :
    m.readN a n = m'.readN a n := by
  induction n with
  | zero => rfl
  | succ n ih => rw [Memory.readN, Memory.readN, ih fun i hi => h i (by omega), h n (by omega)]

theorem Memory.readN_lt (m : Memory) (a n : Nat) : m.readN a n < 256 ^ n := by
  induction n with
  | zero => simp [Memory.readN]
  | succ n ih =>
    have := (m.read (a + n)).isLt
    rw [Memory.readN, Nat.pow_succ]
    omega

/-- An access of `n` bytes reads back the low `n` bytes of what was written there (43_load_store.md R345). -/
theorem Memory.readN_writeN {m : Memory} (h : m.wf) {a n : Nat} (ha : a + n ≤ 2 ^ 63) (v : Nat) :
    (m.writeN a n v).readN a n = v % 256 ^ n := by
  induction n generalizing v with
  | zero => simp [Memory.readN, Nat.mod_one]
  | succ n ih =>
    have hw := Memory.writeN_wf h (a := a) (n := n) (by omega) (v / 256)
    have h1 : ((m.writeN a n (v / 256)).write (a + n) (BitVec.ofNat 8 v)).readN a n = (m.writeN a n (v / 256)).readN a n :=
      Memory.readN_congr fun i hi => by
        rw [Memory.read_write _ hw, if_neg (by omega)]
    rw [Memory.writeN, Memory.readN, h1, ih (by omega), Memory.read_write _ hw, if_pos rfl, BitVec.toNat_ofNat,
      show 256 ^ (n + 1) = 256 * 256 ^ n from Nat.pow_succ', Nat.mod_mul]
    omega

/-! ### Effective addresses -/

/-- The access sizes (R83). -/
abbrev AccessSize (n : Nat) : Prop := n = 1 ∨ n = 2 ∨ n = 4 ∨ n = 8

/-- The effective address as arithmetic: modulo 2^63, rounded down to a multiple of the size (R85, R86). -/
theorem effective_eq {n : Nat} (hn : AccessSize n) (a : Word) : effective n a = a.toNat % 2 ^ 63 / n * n := by
  have key (k : Nat) (hk : k ≤ 3) :
      ((a &&& 0x7FFFFFFFFFFFFFFF#64) &&& ~~~(BitVec.ofNat 64 (2 ^ k - 1))).toNat = a.toNat % 2 ^ 63 / 2 ^ k * 2 ^ k := by
    have h63 : (a &&& 0x7FFFFFFFFFFFFFFF#64).toNat = a.toNat % 2 ^ 63 := by
      rw [BitVec.toNat_and, show (0x7FFFFFFFFFFFFFFF#64).toNat = 2 ^ 63 - 1 from rfl, Nat.and_two_pow_sub_one_eq_mod]
    rw [← h63]
    generalize a &&& 0x7FFFFFFFFFFFFFFF#64 = b
    apply Nat.eq_of_testBit_eq
    intro i
    rw [Nat.testBit_mul_two_pow, Nat.testBit_div_two_pow, BitVec.testBit_toNat, BitVec.getLsbD_and, BitVec.getLsbD_not,
      BitVec.getLsbD_ofNat, Nat.testBit_two_pow_sub_one, BitVec.testBit_toNat]
    by_cases hi : i < k
    · have : ¬ k ≤ i := by omega
      simp [hi, this, show i < 64 by omega]
    · have hki : k ≤ i := by omega
      rw [Nat.sub_add_cancel hki]
      by_cases h64 : i < 64
      · simp [hi, hki, h64]
      · simp [hki, BitVec.getLsbD_of_ge b i (by omega)]
  rcases hn with rfl | rfl | rfl | rfl
  · exact key 0 (by omega)
  · exact key 1 (by omega)
  · exact key 2 (by omega)
  · exact key 3 (by omega)

/-- An access stays below 2^63 (R86). -/
theorem effective_add_le {n : Nat} (hn : AccessSize n) (a : Word) : effective n a + n ≤ 2 ^ 63 := by
  rw [effective_eq hn]
  have : a.toNat % 2 ^ 63 < 2 ^ 63 := Nat.mod_lt _ (by decide)
  generalize a.toNat % 2 ^ 63 = b at this
  rcases hn with rfl | rfl | rfl | rfl <;> omega

theorem Memory.store_wf {m : Memory} (h : m.wf) {n : Nat} (hn : AccessSize n) (a v : Word) : (m.store n a v).wf :=
  Memory.writeN_wf h (effective_add_le hn a) _

/-- What a store can do: its `n` bytes, and nothing else (R87). -/
theorem Memory.read_store {m : Memory} (h : m.wf) {n : Nat} (hn : AccessSize n) (a v : Word) (a' : Nat) :
    (m.store n a v).read a' =
      if effective n a ≤ a' ∧ a' < effective n a + n then BitVec.ofNat 8 (v.toNat / 256 ^ (effective n a + n - 1 - a'))
      else m.read a' :=
  Memory.read_writeN h (effective_add_le hn a) _ _

/-- A load of the stored width at the stored address returns the low bytes of what was stored (R345). -/
theorem Memory.load_store {m : Memory} (h : m.wf) {n : Nat} (hn : AccessSize n) (a v : Word) :
    (m.store n a v).load n a = v.toNat % 256 ^ n :=
  Memory.readN_writeN h (effective_add_le hn a) _

theorem Memory.load_lt (m : Memory) (n : Nat) (a : Word) : m.load n a < 256 ^ n := Memory.readN_lt _ _ _

theorem Memory.storeOctas_wf {m : Memory} (h : m.wf) (a : Word) (vs : List Word) : (m.storeOctas a vs).wf := by
  induction vs generalizing m a with
  | nil => exact h
  | cons v vs ih => exact ih (Memory.store_wf h (.inr (.inr (.inr rfl))) _ _) _

@[simp] theorem Memory.length_loadOctas (m : Memory) (a : Word) (k : Nat) : (m.loadOctas a k).length = k := by
  induction k generalizing a with
  | zero => rfl
  | succ k ih => simp [Memory.loadOctas, ih]

end Sys2Proof.Machine
end

