-- ==== Sys2Proof/Laws/State.lean ====
section
/-! SUPPORT. One lemma per field per update of `State`, all true by unfolding: later proofs rewrite with them and never
unfold an update. -/

namespace Sys2Proof.Machine

variable (s : State)

/-! ### `setStatus` -/

@[simp] theorem params_setStatus (v : Status) : (s.setStatus v).params = s.params := rfl
@[simp] theorem status_setStatus (v : Status) : (s.setStatus v).status = v := rfl
@[simp] theorem pc_setStatus (v : Status) : (s.setStatus v).pc = s.pc := rfl
@[simp] theorem frame_setStatus (v : Status) : (s.setStatus v).frame = s.frame := rfl
@[simp] theorem glob_setStatus (v : Status) : (s.setStatus v).glob = s.glob := rfl
@[simp] theorem stack_setStatus (v : Status) : (s.setStatus v).stack = s.stack := rfl
@[simp] theorem sr_setStatus (v : Status) : (s.setStatus v).sr = s.sr := rfl
@[simp] theorem mem_setStatus (v : Status) : (s.setStatus v).mem = s.mem := rfl
@[simp] theorem out_setStatus (v : Status) : (s.setStatus v).out = s.out := rfl
@[simp] theorem draws_setStatus (v : Status) : (s.setStatus v).draws = s.draws := rfl

/-! ### `setPc` -/

@[simp] theorem params_setPc (v : Word) : (s.setPc v).params = s.params := rfl
@[simp] theorem status_setPc (v : Word) : (s.setPc v).status = s.status := rfl
@[simp] theorem pc_setPc (v : Word) : (s.setPc v).pc = v := rfl
@[simp] theorem frame_setPc (v : Word) : (s.setPc v).frame = s.frame := rfl
@[simp] theorem glob_setPc (v : Word) : (s.setPc v).glob = s.glob := rfl
@[simp] theorem stack_setPc (v : Word) : (s.setPc v).stack = s.stack := rfl
@[simp] theorem sr_setPc (v : Word) : (s.setPc v).sr = s.sr := rfl
@[simp] theorem mem_setPc (v : Word) : (s.setPc v).mem = s.mem := rfl
@[simp] theorem out_setPc (v : Word) : (s.setPc v).out = s.out := rfl
@[simp] theorem draws_setPc (v : Word) : (s.setPc v).draws = s.draws := rfl

/-! ### `setFrame` -/

@[simp] theorem params_setFrame (v : List Word) : (s.setFrame v).params = s.params := rfl
@[simp] theorem status_setFrame (v : List Word) : (s.setFrame v).status = s.status := rfl
@[simp] theorem pc_setFrame (v : List Word) : (s.setFrame v).pc = s.pc := rfl
@[simp] theorem frame_setFrame (v : List Word) : (s.setFrame v).frame = v := rfl
@[simp] theorem glob_setFrame (v : List Word) : (s.setFrame v).glob = s.glob := rfl
@[simp] theorem stack_setFrame (v : List Word) : (s.setFrame v).stack = s.stack := rfl
@[simp] theorem sr_setFrame (v : List Word) : (s.setFrame v).sr = s.sr := rfl
@[simp] theorem mem_setFrame (v : List Word) : (s.setFrame v).mem = s.mem := rfl
@[simp] theorem out_setFrame (v : List Word) : (s.setFrame v).out = s.out := rfl
@[simp] theorem draws_setFrame (v : List Word) : (s.setFrame v).draws = s.draws := rfl

/-! ### `setGlob` -/

@[simp] theorem params_setGlob (v : List Word) : (s.setGlob v).params = s.params := rfl
@[simp] theorem status_setGlob (v : List Word) : (s.setGlob v).status = s.status := rfl
@[simp] theorem pc_setGlob (v : List Word) : (s.setGlob v).pc = s.pc := rfl
@[simp] theorem frame_setGlob (v : List Word) : (s.setGlob v).frame = s.frame := rfl
@[simp] theorem glob_setGlob (v : List Word) : (s.setGlob v).glob = v := rfl
@[simp] theorem stack_setGlob (v : List Word) : (s.setGlob v).stack = s.stack := rfl
@[simp] theorem sr_setGlob (v : List Word) : (s.setGlob v).sr = s.sr := rfl
@[simp] theorem mem_setGlob (v : List Word) : (s.setGlob v).mem = s.mem := rfl
@[simp] theorem out_setGlob (v : List Word) : (s.setGlob v).out = s.out := rfl
@[simp] theorem draws_setGlob (v : List Word) : (s.setGlob v).draws = s.draws := rfl

/-! ### `setStack` -/

@[simp] theorem params_setStack (v : List Word) : (s.setStack v).params = s.params := rfl
@[simp] theorem status_setStack (v : List Word) : (s.setStack v).status = s.status := rfl
@[simp] theorem pc_setStack (v : List Word) : (s.setStack v).pc = s.pc := rfl
@[simp] theorem frame_setStack (v : List Word) : (s.setStack v).frame = s.frame := rfl
@[simp] theorem glob_setStack (v : List Word) : (s.setStack v).glob = s.glob := rfl
@[simp] theorem stack_setStack (v : List Word) : (s.setStack v).stack = v := rfl
@[simp] theorem sr_setStack (v : List Word) : (s.setStack v).sr = s.sr := rfl
@[simp] theorem mem_setStack (v : List Word) : (s.setStack v).mem = s.mem := rfl
@[simp] theorem out_setStack (v : List Word) : (s.setStack v).out = s.out := rfl
@[simp] theorem draws_setStack (v : List Word) : (s.setStack v).draws = s.draws := rfl

/-! ### `setSr` -/

@[simp] theorem params_setSr (v : Specials) : (s.setSr v).params = s.params := rfl
@[simp] theorem status_setSr (v : Specials) : (s.setSr v).status = s.status := rfl
@[simp] theorem pc_setSr (v : Specials) : (s.setSr v).pc = s.pc := rfl
@[simp] theorem frame_setSr (v : Specials) : (s.setSr v).frame = s.frame := rfl
@[simp] theorem glob_setSr (v : Specials) : (s.setSr v).glob = s.glob := rfl
@[simp] theorem stack_setSr (v : Specials) : (s.setSr v).stack = s.stack := rfl
@[simp] theorem sr_setSr (v : Specials) : (s.setSr v).sr = v := rfl
@[simp] theorem mem_setSr (v : Specials) : (s.setSr v).mem = s.mem := rfl
@[simp] theorem out_setSr (v : Specials) : (s.setSr v).out = s.out := rfl
@[simp] theorem draws_setSr (v : Specials) : (s.setSr v).draws = s.draws := rfl

/-! ### `setMem` -/

@[simp] theorem params_setMem (v : Memory) : (s.setMem v).params = s.params := rfl
@[simp] theorem status_setMem (v : Memory) : (s.setMem v).status = s.status := rfl
@[simp] theorem pc_setMem (v : Memory) : (s.setMem v).pc = s.pc := rfl
@[simp] theorem frame_setMem (v : Memory) : (s.setMem v).frame = s.frame := rfl
@[simp] theorem glob_setMem (v : Memory) : (s.setMem v).glob = s.glob := rfl
@[simp] theorem stack_setMem (v : Memory) : (s.setMem v).stack = s.stack := rfl
@[simp] theorem sr_setMem (v : Memory) : (s.setMem v).sr = s.sr := rfl
@[simp] theorem mem_setMem (v : Memory) : (s.setMem v).mem = v := rfl
@[simp] theorem out_setMem (v : Memory) : (s.setMem v).out = s.out := rfl
@[simp] theorem draws_setMem (v : Memory) : (s.setMem v).draws = s.draws := rfl

/-! ### `setOut` -/

@[simp] theorem params_setOut (v : Outputs) : (s.setOut v).params = s.params := rfl
@[simp] theorem status_setOut (v : Outputs) : (s.setOut v).status = s.status := rfl
@[simp] theorem pc_setOut (v : Outputs) : (s.setOut v).pc = s.pc := rfl
@[simp] theorem frame_setOut (v : Outputs) : (s.setOut v).frame = s.frame := rfl
@[simp] theorem glob_setOut (v : Outputs) : (s.setOut v).glob = s.glob := rfl
@[simp] theorem stack_setOut (v : Outputs) : (s.setOut v).stack = s.stack := rfl
@[simp] theorem sr_setOut (v : Outputs) : (s.setOut v).sr = s.sr := rfl
@[simp] theorem mem_setOut (v : Outputs) : (s.setOut v).mem = s.mem := rfl
@[simp] theorem out_setOut (v : Outputs) : (s.setOut v).out = v := rfl
@[simp] theorem draws_setOut (v : Outputs) : (s.setOut v).draws = s.draws := rfl

/-! ### `setDraws` -/

@[simp] theorem params_setDraws (v : Nat) : (s.setDraws v).params = s.params := rfl
@[simp] theorem status_setDraws (v : Nat) : (s.setDraws v).status = s.status := rfl
@[simp] theorem pc_setDraws (v : Nat) : (s.setDraws v).pc = s.pc := rfl
@[simp] theorem frame_setDraws (v : Nat) : (s.setDraws v).frame = s.frame := rfl
@[simp] theorem glob_setDraws (v : Nat) : (s.setDraws v).glob = s.glob := rfl
@[simp] theorem stack_setDraws (v : Nat) : (s.setDraws v).stack = s.stack := rfl
@[simp] theorem sr_setDraws (v : Nat) : (s.setDraws v).sr = s.sr := rfl
@[simp] theorem mem_setDraws (v : Nat) : (s.setDraws v).mem = s.mem := rfl
@[simp] theorem out_setDraws (v : Nat) : (s.setDraws v).out = s.out := rfl
@[simp] theorem draws_setDraws (v : Nat) : (s.setDraws v).draws = v := rfl

/-! ### `advance` and `event` -/

@[simp] theorem params_advance : s.advance.params = s.params := rfl
@[simp] theorem status_advance : s.advance.status = s.status := rfl
@[simp] theorem pc_advance : s.advance.pc = s.pc + 4 := rfl
@[simp] theorem frame_advance : s.advance.frame = s.frame := rfl
@[simp] theorem glob_advance : s.advance.glob = s.glob := rfl
@[simp] theorem stack_advance : s.advance.stack = s.stack := rfl
@[simp] theorem sr_advance : s.advance.sr = s.sr := rfl
@[simp] theorem mem_advance : s.advance.mem = s.mem := rfl
@[simp] theorem out_advance : s.advance.out = s.out := rfl
@[simp] theorem draws_advance : s.advance.draws = s.draws := rfl

@[simp] theorem params_event (e : Byte) : (s.event e).params = s.params := rfl
@[simp] theorem status_event (e : Byte) : (s.event e).status = s.status := rfl
@[simp] theorem pc_event (e : Byte) : (s.event e).pc = s.pc := rfl
@[simp] theorem frame_event (e : Byte) : (s.event e).frame = s.frame := rfl
@[simp] theorem glob_event (e : Byte) : (s.event e).glob = s.glob := rfl
@[simp] theorem stack_event (e : Byte) : (s.event e).stack = s.stack := rfl
@[simp] theorem sr_event (e : Byte) : (s.event e).sr = { s.sr with rA := s.sr.rA ||| e.setWidth 64 } := rfl
@[simp] theorem mem_event (e : Byte) : (s.event e).mem = s.mem := rfl
@[simp] theorem out_event (e : Byte) : (s.event e).out = s.out := rfl
@[simp] theorem draws_event (e : Byte) : (s.event e).draws = s.draws := rfl

/-! ### `raise` -/

@[simp] theorem params_raise (r : FaultReason) : (s.raise r).params = s.params := by
  unfold State.raise; split <;> rfl
@[simp] theorem status_raise (r : FaultReason) : (s.raise r).status = .faulted r := rfl
@[simp] theorem pc_raise (r : FaultReason) : (s.raise r).pc = s.pc := by
  unfold State.raise; split <;> rfl
@[simp] theorem frame_raise (r : FaultReason) : (s.raise r).frame = s.frame := by
  unfold State.raise; split <;> rfl
@[simp] theorem glob_raise (r : FaultReason) : (s.raise r).glob = s.glob := by
  unfold State.raise; split <;> rfl
@[simp] theorem stack_raise (r : FaultReason) : (s.raise r).stack = s.stack := by
  unfold State.raise; split <;> rfl
/-- A fault changes no special register but the I bit of rA (60_exceptions.md R506). -/
@[simp] theorem sr_raise (r : FaultReason) :
    (s.raise r).sr = if r.setsI then { s.sr with rA := s.sr.rA ||| eventI.setWidth 64 } else s.sr := by
  unfold State.raise; split <;> rfl
@[simp] theorem mem_raise (r : FaultReason) : (s.raise r).mem = s.mem := by
  unfold State.raise; split <;> rfl
@[simp] theorem out_raise (r : FaultReason) : (s.raise r).out = s.out := by
  unfold State.raise; split <;> rfl
@[simp] theorem draws_raise (r : FaultReason) : (s.raise r).draws = s.draws := by
  unfold State.raise; split <;> rfl

/-! ### `L`, `G` and register reads depend only on the two register files -/

@[simp] theorem L_setStatus (v : Status) : (s.setStatus v).L = s.L := rfl
@[simp] theorem G_setStatus (v : Status) : (s.setStatus v).G = s.G := rfl
@[simp] theorem reg_setStatus (v : Status) (k : Byte) : (s.setStatus v).reg k = s.reg k := rfl
@[simp] theorem L_setPc (v : Word) : (s.setPc v).L = s.L := rfl
@[simp] theorem G_setPc (v : Word) : (s.setPc v).G = s.G := rfl
@[simp] theorem reg_setPc (v : Word) (k : Byte) : (s.setPc v).reg k = s.reg k := rfl
@[simp] theorem L_setStack (v : List Word) : (s.setStack v).L = s.L := rfl
@[simp] theorem G_setStack (v : List Word) : (s.setStack v).G = s.G := rfl
@[simp] theorem reg_setStack (v : List Word) (k : Byte) : (s.setStack v).reg k = s.reg k := rfl
@[simp] theorem L_setSr (v : Specials) : (s.setSr v).L = s.L := rfl
@[simp] theorem G_setSr (v : Specials) : (s.setSr v).G = s.G := rfl
@[simp] theorem reg_setSr (v : Specials) (k : Byte) : (s.setSr v).reg k = s.reg k := rfl
@[simp] theorem L_setMem (v : Memory) : (s.setMem v).L = s.L := rfl
@[simp] theorem G_setMem (v : Memory) : (s.setMem v).G = s.G := rfl
@[simp] theorem reg_setMem (v : Memory) (k : Byte) : (s.setMem v).reg k = s.reg k := rfl
@[simp] theorem L_setOut (v : Outputs) : (s.setOut v).L = s.L := rfl
@[simp] theorem G_setOut (v : Outputs) : (s.setOut v).G = s.G := rfl
@[simp] theorem reg_setOut (v : Outputs) (k : Byte) : (s.setOut v).reg k = s.reg k := rfl
@[simp] theorem L_setDraws (v : Nat) : (s.setDraws v).L = s.L := rfl
@[simp] theorem G_setDraws (v : Nat) : (s.setDraws v).G = s.G := rfl
@[simp] theorem reg_setDraws (v : Nat) (k : Byte) : (s.setDraws v).reg k = s.reg k := rfl
@[simp] theorem L_advance : s.advance.L = s.L := rfl
@[simp] theorem G_advance : s.advance.G = s.G := rfl
@[simp] theorem reg_advance (k : Byte) : s.advance.reg k = s.reg k := rfl
@[simp] theorem L_event (e : Byte) : (s.event e).L = s.L := rfl
@[simp] theorem G_event (e : Byte) : (s.event e).G = s.G := rfl
@[simp] theorem reg_event (e : Byte) (k : Byte) : (s.event e).reg k = s.reg k := rfl
@[simp] theorem L_raise (r : FaultReason) : (s.raise r).L = s.L := by simp [State.L]
@[simp] theorem G_raise (r : FaultReason) : (s.raise r).G = s.G := by simp [State.G]
@[simp] theorem reg_raise (r : FaultReason) (k : Byte) : (s.raise r).reg k = s.reg k := by simp [State.reg]
@[simp] theorem L_setFrame (v : List Word) : (s.setFrame v).L = v.length := rfl
@[simp] theorem G_setFrame (v : List Word) : (s.setFrame v).G = s.G := rfl
@[simp] theorem L_setGlob (v : List Word) : (s.setGlob v).L = s.L := rfl
@[simp] theorem G_setGlob (v : List Word) : (s.setGlob v).G = 256 - v.length := rfl

end Sys2Proof.Machine
end

