-- ==== Sys2Proof/Laws/Registers.lean ====
section
/-! SUPPORT. The laws of the general registers: what a register reads after `setReg`, and how L and G move (10_state.md
R24, R25). They hold in every state, legal or not. -/

namespace Sys2Proof.Machine

theorem State.L_eq (s : State) : s.L = s.frame.length := rfl

theorem State.G_eq (s : State) : s.G = 256 - s.glob.length := rfl

/-- A read depends on the frame and the globals alone. -/
theorem reg_congr {s t : State} (hf : t.frame = s.frame) (hg : t.glob = s.glob) (k : Byte) : t.reg k = s.reg k := by
  unfold State.reg State.G
  rw [hf, hg]

theorem L_congr {s t : State} (hf : t.frame = s.frame) : t.L = s.L := by
  unfold State.L
  rw [hf]

theorem G_congr {s t : State} (hg : t.glob = s.glob) : t.G = s.G := by
  unfold State.G
  rw [hg]

/-- A global register reads its place in `glob` (R24). -/
theorem reg_of_global {s : State} {k : Byte} (h : s.G ≤ k.toNat) : s.reg k = s.glob.getD (k.toNat - s.G) 0 := if_pos h

/-- Below G a register reads its place in the frame, or 0 past its end (R24). -/
theorem reg_of_lt {s : State} {k : Byte} (h : k.toNat < s.G) : s.reg k = s.frame.getD k.toNat 0 :=
  if_neg (Nat.not_le.2 h)

theorem reg_of_marginal {s : State} {k : Byte} (h : s.marginal k = true) : s.reg k = 0 := by
  have h := of_decide_eq_true h
  rw [reg_of_lt h.2, List.getD_eq_default _ _ h.1]

@[simp] theorem G_setReg (k : Byte) (v : Word) (s : State) : (s.setReg k v).G = s.G := by
  unfold State.setReg State.G
  split
  · simp
  · split <;> rfl

theorem L_setReg (k : Byte) (v : Word) (s : State) :
    (s.setReg k v).L = if s.marginal k then k.toNat + 1 else s.L := by
  have hm : s.marginal k = decide (s.L ≤ k.toNat ∧ k.toNat < s.G) := rfl
  unfold State.setReg
  split
  · rw [hm, decide_eq_false (by omega)]
    rfl
  · split
    · rw [hm, decide_eq_false (by omega), if_neg (by simp)]
      simp [State.L]
    · rw [hm, decide_eq_true (by omega), if_pos rfl]
      simp only [State.L, frame_setFrame, List.length_append, List.length_replicate, List.length_singleton] at *
      omega

/-- A register written reads the value written (R25). -/
theorem reg_setReg_same (k : Byte) (v : Word) (s : State) : (s.setReg k v).reg k = v := by
  have hk := k.isLt
  by_cases hG : s.G ≤ k.toNat
  · rw [reg_of_global (by simpa using hG), G_setReg, State.setReg, if_pos hG, glob_setGlob]
    have : k.toNat - s.G < s.glob.length := by
      unfold State.G at *
      omega
    simp [List.getD_eq_getElem?_getD, this]
  · rw [reg_of_lt (by rw [G_setReg]; omega), State.setReg, if_neg hG]
    split
    · rename_i h
      simp only [frame_setFrame]
      simp only [State.L] at h
      simp [List.getD_eq_getElem?_getD, h]
    · rename_i h
      simp only [frame_setFrame]
      simp only [State.L] at h ⊢
      rw [List.getD_append_right _ _ _ _ (by simp; omega)]
      simp [show k.toNat - (s.frame.length + (k.toNat - s.frame.length)) = 0 by omega]

/-- Every other register reads as before (R25). -/
theorem reg_setReg_other {j k : Byte} (h : j ≠ k) (v : Word) (s : State) : (s.setReg k v).reg j = s.reg j := by
  have hne : j.toNat ≠ k.toNat := fun e => h (BitVec.eq_of_toNat_eq e)
  by_cases hG : s.G ≤ j.toNat
  · rw [reg_of_global (by simpa using hG), reg_of_global hG, G_setReg, State.setReg]
    split
    · rw [glob_setGlob]
      simp only [List.getD_eq_getElem?_getD]
      rw [List.getElem?_set_ne (by omega)]
    · split <;> rfl
  · rw [reg_of_lt (by rw [G_setReg]; omega), reg_of_lt (by omega), State.setReg]
    split
    · rfl
    · split
      · simp only [frame_setFrame, List.getD_eq_getElem?_getD]
        rw [List.getElem?_set_ne (by omega)]
      · rename_i hL
        simp only [frame_setFrame, State.L] at hL ⊢
        simp only [List.getD_eq_getElem?_getD]
        simp only [List.append_assoc]
        by_cases h1 : j.toNat < s.frame.length
        · rw [List.getElem?_append_left h1]
        · rw [List.getElem?_append_right (by omega), List.getElem?_eq_none (by omega : s.frame.length ≤ j.toNat)]
          by_cases h2 : j.toNat < k.toNat
          · rw [List.getElem?_append_left (by simp; omega)]
            simp [show j.toNat - s.frame.length < k.toNat - s.frame.length by omega]
          · rw [List.getElem?_eq_none (by simp; omega)]

@[simp] theorem params_setReg (k : Byte) (v : Word) (s : State) : (s.setReg k v).params = s.params := by
  unfold State.setReg; split <;> [rfl; split] <;> rfl
@[simp] theorem status_setReg (k : Byte) (v : Word) (s : State) : (s.setReg k v).status = s.status := by
  unfold State.setReg; split <;> [rfl; split] <;> rfl
@[simp] theorem pc_setReg (k : Byte) (v : Word) (s : State) : (s.setReg k v).pc = s.pc := by
  unfold State.setReg; split <;> [rfl; split] <;> rfl
@[simp] theorem stack_setReg (k : Byte) (v : Word) (s : State) : (s.setReg k v).stack = s.stack := by
  unfold State.setReg; split <;> [rfl; split] <;> rfl
@[simp] theorem sr_setReg (k : Byte) (v : Word) (s : State) : (s.setReg k v).sr = s.sr := by
  unfold State.setReg; split <;> [rfl; split] <;> rfl
@[simp] theorem mem_setReg (k : Byte) (v : Word) (s : State) : (s.setReg k v).mem = s.mem := by
  unfold State.setReg; split <;> [rfl; split] <;> rfl
@[simp] theorem out_setReg (k : Byte) (v : Word) (s : State) : (s.setReg k v).out = s.out := by
  unfold State.setReg; split <;> [rfl; split] <;> rfl
@[simp] theorem draws_setReg (k : Byte) (v : Word) (s : State) : (s.setReg k v).draws = s.draws := by
  unfold State.setReg; split <;> [rfl; split] <;> rfl

/-- What `setReg` does to the registers, once and whole. -/
theorem wroteReg_setReg (k : Byte) (v : Word) (s : State) : WroteReg s k v (s.setReg k v) :=
  ⟨reg_setReg_same k v s, fun _ h => reg_setReg_other h v s, L_setReg k v s, G_setReg k v s⟩

/-- The register part of a state may be read off any state with the same frame and globals. -/
theorem WroteReg.congr {s t u : State} {x : Byte} {v : Word} (h : WroteReg s x v t) (hf : u.frame = t.frame)
    (hg : u.glob = t.glob) : WroteReg s x v u :=
  ⟨by rw [reg_congr hf hg, h.1], fun k hk => by rw [reg_congr hf hg, h.2.1 k hk], by rw [L_congr hf, h.2.2.1],
    by rw [G_congr hg, h.2.2.2]⟩

theorem KeptRegs.of_eq {s t : State} (hf : t.frame = s.frame) (hg : t.glob = s.glob) : KeptRegs s t :=
  ⟨reg_congr hf hg, L_congr hf, G_congr hg⟩

end Sys2Proof.Machine
end

