-- ==== Sys2Proof/Laws/Effects.lean ====
section
/-! SUPPORT. One lemma per shared operation that says once everything it can do, in the terms of Safety.lean: the proofs
about instructions cite these and do not unfold the operations. -/

namespace Sys2Proof.Machine

variable {s t : State}

/-! ### Faults -/

/-- `fails` is the state of 60_exceptions.md R506, R507. -/
theorem faults_fails (s : State) (f : FaultReason) : Faults s f (s.fails f) := by
  refine ⟨s.raise f, rfl, status_raise s f, ?_, pc_raise s f, .of_eq (frame_raise s f) (glob_raise s f), ?_,
    stack_raise s f, out_raise s f, params_raise s f, ?_⟩
  · rw [sr_raise]
    cases f <;> rfl
  · intro a
    rw [mem_raise]
  · cases f <;> rfl

/-! ### Register writes -/

theorem guardWrite_of_room {k : Byte} (h : s.roomFor k = true) (t : State) : s.guardWrite k t = .next t := if_pos h

theorem guardWrite_of_no_room {k : Byte} (h : s.roomFor k = false) (t : State) :
    s.guardWrite k t = s.fails .registerStackOverflow := if_neg (by simp [h])

/-- A guarded write answers its state, or faults because `RING_LIMIT` forbids the write. -/
theorem guardWrite_cases {k : Byte} {u : State} (h : s.guardWrite k t = .next u) :
    s.roomFor k = true ∧ u = t ∨ s.roomFor k = false ∧ u = s.raise .registerStackOverflow := by
  cases hr : s.roomFor k with
  | true => rw [guardWrite_of_room hr] at h; cases h; exact .inl ⟨rfl, rfl⟩
  | false => rw [guardWrite_of_no_room hr] at h; cases h; exact .inr ⟨rfl, rfl⟩

/-- The instruction whose whole effect is `x[k] <- v`, the stored special registers `sr` and the advance of `pc`. -/
theorem computes_setReg {x : Byte} (h : s.roomFor x = true) (v : Word) (sr : Specials) :
    Computes s x v sr (s.guardWrite x (((s.setReg x v).setSr sr).advance)) :=
  ⟨_, guardWrite_of_room h _, (wroteReg_setReg x v s).congr rfl rfl, rfl, by simp, fun a => by simp, by simp [KeptRest],
    by simp⟩

/-- `writeX` (10_state.md R25, R26; 60_exceptions.md R503). -/
theorem computes_writeX {x : Byte} (h : s.roomFor x = true) (v : Word) (ev : Byte) :
    Computes s x v (s.withEvents ev) (s.writeX x v ev) :=
  ⟨_, guardWrite_of_room h _, (wroteReg_setReg x v s).congr rfl rfl, by simp [State.withEvents], by simp,
    fun a => by simp, by simp [KeptRest], by simp⟩

@[simp] theorem withEvents_zero (s : State) : s.withEvents 0 = s.sr := by simp [State.withEvents]

theorem computes_writeX_zero {x : Byte} (h : s.roomFor x = true) (v : Word) : Computes s x v s.sr (s.writeX x v 0) :=
  withEvents_zero s ▸ computes_writeX h v 0

/-- `writeX` answers a next state: the written one, or the fault of `RING_LIMIT`. -/
theorem writeX_cases {x : Byte} {v : Word} {ev : Byte} {u : State} (h : s.writeX x v ev = .next u) :
    s.roomFor x = true ∧ u = ((s.setReg x v).event ev).advance ∨
      s.roomFor x = false ∧ u = s.raise .registerStackOverflow := guardWrite_cases h

/-! ### Stores -/

theorem wroteMem_store (hm : s.mem.wf) {n : Nat} (hn : AccessSize n) (a v : Word)
    (ht : t.mem = s.mem.store n a v) : WroteMem s n a v t := by
  have h8 : n ≤ 8 := by rcases hn with rfl | rfl | rfl | rfl <;> omega
  refine ⟨fun i hi => ?_, fun b hb => ?_⟩
  · rw [ht, Memory.read_store hm hn, if_pos (by omega)]
    apply BitVec.eq_of_toNat_eq
    rw [BitVec.extractLsb'_toNat, BitVec.toNat_ofNat, Nat.shiftRight_eq_div_pow,
      show effective n a + n - 1 - (effective n a + i) = n - 1 - i by omega, Nat.pow_mul]
  · rw [ht, Memory.read_store hm hn, if_neg (by omega)]

/-- `storeX` (43_load_store.md R320): in memory in its canonical form, the bytes stored are the operand's. -/
theorem stores_storeX (hm : s.mem.wf) {n : Nat} (hn : AccessSize n) (a v : Word) (ev : Byte) :
    Stores s n a v ev (s.storeX n a v ev) :=
  ⟨_, rfl, wroteMem_store hm hn a v rfl, rfl, rfl, .of_eq rfl rfl, ⟨rfl, rfl, rfl, rfl⟩, rfl⟩

/-! ### Jumps -/

theorem goesTo_setPc (s : State) (a : Word) : GoesTo s a (.next (s.setPc a)) :=
  ⟨_, rfl, rfl, rfl, .of_eq rfl rfl, fun _ => rfl, ⟨rfl, rfl, rfl, rfl⟩, rfl⟩

theorem goesTo_advance (s : State) : GoesTo s (s.pc + 4) (.next s.advance) := goesTo_setPc s (s.pc + 4)

/-- A branch (45_control_transfer.md R380). -/
theorem goesTo_branch (c : Cond) (x : Byte) (k : Int) (s : State) :
    GoesTo s (if condHolds c (s.reg x) then relTarget s.pc k else s.pc + 4) (s.branch c x k) := by
  unfold State.branch
  split
  · exact goesTo_setPc s _
  · exact goesTo_advance s

/-- `goX` (45_control_transfer.md R399). -/
theorem goX_of_room {x : Byte} (h : s.roomFor x = true) (a : Word) :
    s.goX x a = .next ((s.setReg x (s.pc + 4)).setPc (alignTarget a)) := guardWrite_of_room h _

/-- `goX` links and jumps, or faults because `RING_LIMIT` forbids the write (R399). -/
theorem goX_cases {x : Byte} {a : Word} {u : State} (h : s.goX x a = .next u) :
    s.roomFor x = true ∧ u = (s.setReg x (s.pc + 4)).setPc (alignTarget a) ∨
      s.roomFor x = false ∧ u = s.raise .registerStackOverflow := guardWrite_cases h

/-! ### Special registers -/

/-- `putStored` changes the stored special registers and `pc`. -/
theorem putStored_eq (r : Specials) (s : State) : s.putStored r = .next (s.setSr r).advance := rfl

/-- `PUT` answers a next state for every register and value (47_system.md R477). -/
theorem putSpecial_next (r : SpecialReg) (v : Word) (s : State) : ∃ t, s.putSpecial r v = .next t := by
  cases r <;> first
    | exact ⟨_, rfl⟩
    | (simp only [State.putSpecial, State.putRA]; split <;> exact ⟨_, rfl⟩)
    | (simp only [State.putSpecial, State.putRG]; split <;> exact ⟨_, rfl⟩)

/-- `PUT rA` (47_system.md R478). -/
theorem putRA_cases {v : Word} {u : State} (h : s.putRA v = .next u) :
    v.toNat < 2 ^ 18 ∧ u = (s.setSr { s.sr with rA := v }).advance ∨
      2 ^ 18 ≤ v.toNat ∧ u = s.raise .illegalInstruction := by
  simp only [State.putRA] at h
  split at h <;> cases h
  · exact .inl ⟨‹_›, rfl⟩
  · exact .inr ⟨by omega, rfl⟩

/-- `PUT rG` (R479). -/
theorem putRG_cases {v : Word} {u : State} (h : s.putRG v = .next u) :
    (32 ≤ v.toNat ∧ v.toNat ≤ 255 ∧ s.L ≤ v.toNat) ∧ u = (s.setG v.toNat).advance ∨
      (v.toNat < 32 ∨ 255 < v.toNat ∨ v.toNat < s.L) ∧ u = s.raise .illegalInstruction := by
  simp only [State.putRG] at h
  split at h <;> cases h
  · exact .inr ⟨‹_›, rfl⟩
  · exact .inl ⟨by omega, rfl⟩

/-- `PUT` by number: the register's own rule, or the fault of an illegal field (R477, R493). -/
theorem putNumbered_cases {x y : Byte} {v : Word} {u : State} (h : s.putNumbered x y v = .next u) :
    (∃ r, specialOf x = some r ∧ y = 0 ∧ s.putSpecial r v = .next u) ∨
      (specialOf x = none ∨ y ≠ 0) ∧ u = s.raise .illegalInstruction := by
  simp only [State.putNumbered] at h
  split at h
  · split at h
    · exact .inl ⟨_, ‹_›, ‹_›, h⟩
    · cases h; exact .inr ⟨.inr ‹_›, rfl⟩
  · cases h; exact .inr ⟨.inl ‹_›, rfl⟩

/-- `GET`: the value into `$X` and the draws it takes, or the fault of `RING_LIMIT` or of an illegal field
(R476, R493). -/
theorem getSpecial_cases {x y z : Byte} {u : State} (h : s.getSpecial x y z = .next u) :
    (∃ r, specialOf z = some r ∧ y = 0 ∧
      (s.roomFor x = true ∧ u = ((s.setReg x (s.special r)).setDraws (s.draws + drawsTaken r)).advance ∨
        s.roomFor x = false ∧ u = s.raise .registerStackOverflow)) ∨
      (specialOf z = none ∨ y ≠ 0) ∧ u = s.raise .illegalInstruction := by
  simp only [State.getSpecial] at h
  split at h
  · split at h
    · exact .inl ⟨_, ‹_›, ‹_›, guardWrite_cases h⟩
    · cases h; exact .inr ⟨.inr ‹_›, rfl⟩
  · cases h; exact .inr ⟨.inl ‹_›, rfl⟩

/-! ### SAVE, UNSAVE and the system call -/

/-- `saveContext` answers the saved state, or the fault of `RING_LIMIT` (R481). -/
theorem saveContext_cases {x : Byte} {u : State} (h : s.saveContext x = .next u) :
    s.roomFor x = true ∧ u = ((s.setMem (s.mem.storeOctas (s.saveBase x) s.context)).setReg x
        (s.saveBase x + BitVec.ofNat 64 (8 * (s.context.length - 1)))).advance ∨
      s.roomFor x = false ∧ u = s.raise .registerStackOverflow := guardWrite_cases h

/-- `unsaveContext` keeps everything but registers, stored special registers and `pc`, or faults (R482). -/
theorem unsaveContext_cases {f : Word} {u : State} (h : s.unsaveContext f = .next u) :
    (∃ r g l, u = (((s.setSr r).setGlob g).setFrame l).advance) ∨ u = s.raise .illegalInstruction ∨
      u = s.raise .registerStackOverflow := by
  simp only [State.unsaveContext] at h
  split at h
  · cases h; exact .inr (.inl rfl)
  · split at h
    · cases h; exact .inr (.inr rfl)
    · cases h; exact .inl ⟨_, _, _, rfl⟩

/-- `Fputs` writes its string and a draw, or faults (R492). -/
theorem trapFputs_cases {z : Byte} {u : State} (h : s.trapFputs z = .next u) :
    (z.toNat = 1 ∨ z.toNat = 2) ∧
        (s.roomFor 255 = true ∧ u = ((((s.setReg 255 (Config.fputsResult s.draws)).setOut
            (s.out.append z s.fputsBytes)).setDraws (s.draws + 1)).advance) ∨
          s.roomFor 255 = false ∧ u = s.raise .registerStackOverflow) ∨
      ¬(z.toNat = 1 ∨ z.toNat = 2) ∧ u = s.raise .badHandle := by
  simp only [State.trapFputs] at h
  split at h
  · exact .inl ⟨‹_›, guardWrite_cases h⟩
  · cases h; exact .inr ⟨‹_›, rfl⟩

/-! ### The register stack -/

/-- A push answers the pushed state, or the fault of `RING_LIMIT` (45_control_transfer.md R400). -/
theorem push_cases {x : Byte} {a : Word} {u : State} (h : s.push x a = .next u) :
    u = s.pushed x a ∧ s.ringAllows u.stack.length u.L = true ∨ u = s.raise .registerStackOverflow := by
  simp only [State.push] at h
  split at h
  · cases h; exact .inl ⟨rfl, ‹_›⟩
  · cases h; exact .inr rfl

/-- `POP` answers the popped state, or the fault of an empty register stack (R403). -/
theorem pop_cases {x : Byte} {yz : Wyde} {u : State} (h : s.pop x yz = .next u) :
    u = s.popped x yz ∧ s.stack ≠ [] ∨ u = s.raise .stackUnderflow ∧ s.stack = [] := by
  simp only [State.pop] at h
  split at h
  · rename_i he; cases h; exact .inr ⟨rfl, List.isEmpty_iff.1 he⟩
  · rename_i he; cases h; exact .inl ⟨rfl, fun e => he (by simp [e])⟩

/-! ### Trips -/

/-- `resume` goes to rW, or faults when bit 63 of rX is 0 (47_system.md R495). -/
theorem resume_cases {u : State} (h : s.resume = .next u) :
    s.sr.rX.msb = true ∧ u = s.setPc (alignTarget s.sr.rW) ∨ s.sr.rX.msb = false ∧ u = s.raise .unimplemented := by
  simp only [State.resume] at h
  split at h <;> cases h
  · exact .inl ⟨‹_›, rfl⟩
  · exact .inr ⟨by simp_all, rfl⟩

/-! ### Memory stays in its canonical form -/

theorem wf_storeX (hm : s.mem.wf) {n : Nat} (hn : AccessSize n) (a v : Word) (ev : Byte) {u : State}
    (h : s.storeX n a v ev = .next u) : u.mem.wf := by
  cases h
  exact Memory.store_wf hm hn a v

theorem Memory.loadBytes_wf {m : Memory} (h : m.wf) (a : Word) (bs : List Byte) : (m.loadBytes a bs).wf := by
  induction bs generalizing m a with
  | nil => exact h
  | cons b bs ih =>
    have := effective_add_le (n := 1) (.inl rfl) a
    exact ih (Memory.write_wf h (by omega) b) _

theorem Memory.loadSegments_wf {m : Memory} (h : m.wf) (segs : List (Word × List Byte)) :
    (m.loadSegments segs).wf := by
  induction segs generalizing m with
  | nil => exact h
  | cons g segs ih => exact ih (Memory.loadBytes_wf h g.1 g.2)

/-- The reset memory is in its canonical form. -/
theorem reset_memory_wf : State.reset.mem.wf := ⟨.nil, fun _ h => absurd h List.not_mem_nil⟩

/-! ### Loading an image (70_reset_and_hazards.md R543) -/

/-- The bytes of a segment after its first are those of the segment one address up. -/
theorem byteAddress_succ (a : Word) (b : Byte) (bs : List Byte) (i : Nat) :
    byteAddress (a, b :: bs) (i + 1) = byteAddress (a + 1, bs) i := by
  simp only [byteAddress]
  congr 1
  apply BitVec.eq_of_toNat_eq
  simp only [BitVec.toNat_add, BitVec.toNat_ofNat, show (1 : Word).toNat = 1 from rfl]
  omega

theorem byteAddress_zero (g : Word × List Byte) : byteAddress g 0 = effective 1 g.1 := by simp [byteAddress]

/-- A segment's loading leaves the addresses alone that it does not cover. -/
theorem Memory.read_loadBytes_other {m : Memory} (h : m.wf) {a : Word} {bs : List Byte} {c : Nat} (hc : ¬Covers (a, bs) c) :
    (m.loadBytes a bs).read c = m.read c := by
  induction bs generalizing m a with
  | nil => rfl
  | cons b bs ih =>
    have := effective_add_le (n := 1) (.inl rfl) a
    rw [Memory.loadBytes, ih (Memory.write_wf h (by omega) b), Memory.read_write m h, if_neg]
    · exact fun e => hc ⟨0, Nat.succ_pos _, by rw [byteAddress_zero]; exact e.symm⟩
    · rintro ⟨i, hi, e⟩
      exact hc ⟨i + 1, Nat.succ_lt_succ hi, by rw [byteAddress_succ]; exact e⟩

/-- A segment's loading leaves each of its bytes that no later one of its own replaces. -/
theorem Memory.read_loadBytes_same {m : Memory} (h : m.wf) {a : Word} {bs : List Byte} {i : Nat} (hi : i < bs.length)
    (hl : ∀ j, i < j → j < bs.length → byteAddress (a, bs) j ≠ byteAddress (a, bs) i) :
    (m.loadBytes a bs).read (byteAddress (a, bs) i) = bs[i] := by
  induction bs generalizing m a i with
  | nil => exact absurd hi (Nat.not_lt_zero _)
  | cons b bs ih =>
    have := effective_add_le (n := 1) (.inl rfl) a
    have hw := Memory.write_wf h (show effective 1 a < 2 ^ 63 by omega) b
    rw [Memory.loadBytes]
    cases i with
    | zero =>
      rw [Memory.read_loadBytes_other hw, byteAddress_zero, Memory.read_write m h, if_pos rfl, List.getElem_cons_zero]
      rintro ⟨j, hj, e⟩
      exact hl (j + 1) (Nat.succ_pos j) (Nat.succ_lt_succ hj) (by rw [byteAddress_succ]; exact e)
    | succ i =>
      rw [byteAddress_succ, ih hw (Nat.lt_of_succ_lt_succ hi), List.getElem_cons_succ]
      intro j hj hjl
      have := hl (j + 1) (Nat.succ_lt_succ hj) (Nat.succ_lt_succ hjl)
      rwa [byteAddress_succ, byteAddress_succ] at this

theorem Memory.loadSegments_append (m : Memory) (front later : List (Word × List Byte)) :
    m.loadSegments (front ++ later) = (m.loadSegments front).loadSegments later := by
  induction front generalizing m with
  | nil => rfl
  | cons g front ih => exact ih _

end Sys2Proof.Machine
end

