-- ==== Sys2Proof/Laws/PerInstr.lean ====
section
/-! SUPPORT. The family `OpcodeField`, one lemma per constructor: the word of an instruction carries the opcode of its
row of the table in OP (30_encoding.md R129, R135). -/

namespace Sys2Proof.Laws

/-- OP of the encoder's word is the row's opcode. -/
def OpcodeField.Statement (i : Instr) : Prop := wordOp (encode i) = opcode i

theorem OpcodeField.trap (x y z : Byte) : OpcodeField.Statement (.trap x y z) := wordOp_append _ _
theorem OpcodeField.fcmp (x y z : Byte) : OpcodeField.Statement (.fcmp x y z) := wordOp_append _ _
theorem OpcodeField.funop (x y z : Byte) : OpcodeField.Statement (.funop x y z) := wordOp_append _ _
theorem OpcodeField.feql (x y z : Byte) : OpcodeField.Statement (.feql x y z) := wordOp_append _ _
theorem OpcodeField.fadd (x y z : Byte) : OpcodeField.Statement (.fadd x y z) := wordOp_append _ _
theorem OpcodeField.fix (x y z : Byte) : OpcodeField.Statement (.fix x y z) := wordOp_append _ _
theorem OpcodeField.fsub (x y z : Byte) : OpcodeField.Statement (.fsub x y z) := wordOp_append _ _
theorem OpcodeField.fixu (x y z : Byte) : OpcodeField.Statement (.fixu x y z) := wordOp_append _ _
theorem OpcodeField.flot (x y z : Byte) : OpcodeField.Statement (.flot x y z) := wordOp_append _ _
theorem OpcodeField.floti (x y z : Byte) : OpcodeField.Statement (.floti x y z) := wordOp_append _ _
theorem OpcodeField.flotu (x y z : Byte) : OpcodeField.Statement (.flotu x y z) := wordOp_append _ _
theorem OpcodeField.flotui (x y z : Byte) : OpcodeField.Statement (.flotui x y z) := wordOp_append _ _
theorem OpcodeField.sflot (x y z : Byte) : OpcodeField.Statement (.sflot x y z) := wordOp_append _ _
theorem OpcodeField.sfloti (x y z : Byte) : OpcodeField.Statement (.sfloti x y z) := wordOp_append _ _
theorem OpcodeField.sflotu (x y z : Byte) : OpcodeField.Statement (.sflotu x y z) := wordOp_append _ _
theorem OpcodeField.sflotui (x y z : Byte) : OpcodeField.Statement (.sflotui x y z) := wordOp_append _ _
theorem OpcodeField.fmul (x y z : Byte) : OpcodeField.Statement (.fmul x y z) := wordOp_append _ _
theorem OpcodeField.fcmpe (x y z : Byte) : OpcodeField.Statement (.fcmpe x y z) := wordOp_append _ _
theorem OpcodeField.fune (x y z : Byte) : OpcodeField.Statement (.fune x y z) := wordOp_append _ _
theorem OpcodeField.feqle (x y z : Byte) : OpcodeField.Statement (.feqle x y z) := wordOp_append _ _
theorem OpcodeField.fdiv (x y z : Byte) : OpcodeField.Statement (.fdiv x y z) := wordOp_append _ _
theorem OpcodeField.fsqrt (x y z : Byte) : OpcodeField.Statement (.fsqrt x y z) := wordOp_append _ _
theorem OpcodeField.frem (x y z : Byte) : OpcodeField.Statement (.frem x y z) := wordOp_append _ _
theorem OpcodeField.fint (x y z : Byte) : OpcodeField.Statement (.fint x y z) := wordOp_append _ _
theorem OpcodeField.mul (x y z : Byte) : OpcodeField.Statement (.mul x y z) := wordOp_append _ _
theorem OpcodeField.muli (x y z : Byte) : OpcodeField.Statement (.muli x y z) := wordOp_append _ _
theorem OpcodeField.mulu (x y z : Byte) : OpcodeField.Statement (.mulu x y z) := wordOp_append _ _
theorem OpcodeField.mului (x y z : Byte) : OpcodeField.Statement (.mului x y z) := wordOp_append _ _
theorem OpcodeField.div (x y z : Byte) : OpcodeField.Statement (.div x y z) := wordOp_append _ _
theorem OpcodeField.divi (x y z : Byte) : OpcodeField.Statement (.divi x y z) := wordOp_append _ _
theorem OpcodeField.divu (x y z : Byte) : OpcodeField.Statement (.divu x y z) := wordOp_append _ _
theorem OpcodeField.divui (x y z : Byte) : OpcodeField.Statement (.divui x y z) := wordOp_append _ _
theorem OpcodeField.add (x y z : Byte) : OpcodeField.Statement (.add x y z) := wordOp_append _ _
theorem OpcodeField.addi (x y z : Byte) : OpcodeField.Statement (.addi x y z) := wordOp_append _ _
theorem OpcodeField.addu (x y z : Byte) : OpcodeField.Statement (.addu x y z) := wordOp_append _ _
theorem OpcodeField.addui (x y z : Byte) : OpcodeField.Statement (.addui x y z) := wordOp_append _ _
theorem OpcodeField.sub (x y z : Byte) : OpcodeField.Statement (.sub x y z) := wordOp_append _ _
theorem OpcodeField.subi (x y z : Byte) : OpcodeField.Statement (.subi x y z) := wordOp_append _ _
theorem OpcodeField.subu (x y z : Byte) : OpcodeField.Statement (.subu x y z) := wordOp_append _ _
theorem OpcodeField.subui (x y z : Byte) : OpcodeField.Statement (.subui x y z) := wordOp_append _ _
theorem OpcodeField.twoAddu (x y z : Byte) : OpcodeField.Statement (.twoAddu x y z) := wordOp_append _ _
theorem OpcodeField.twoAddui (x y z : Byte) : OpcodeField.Statement (.twoAddui x y z) := wordOp_append _ _
theorem OpcodeField.fourAddu (x y z : Byte) : OpcodeField.Statement (.fourAddu x y z) := wordOp_append _ _
theorem OpcodeField.fourAddui (x y z : Byte) : OpcodeField.Statement (.fourAddui x y z) := wordOp_append _ _
theorem OpcodeField.eightAddu (x y z : Byte) : OpcodeField.Statement (.eightAddu x y z) := wordOp_append _ _
theorem OpcodeField.eightAddui (x y z : Byte) : OpcodeField.Statement (.eightAddui x y z) := wordOp_append _ _
theorem OpcodeField.sixteenAddu (x y z : Byte) : OpcodeField.Statement (.sixteenAddu x y z) := wordOp_append _ _
theorem OpcodeField.sixteenAddui (x y z : Byte) : OpcodeField.Statement (.sixteenAddui x y z) := wordOp_append _ _
theorem OpcodeField.cmp (x y z : Byte) : OpcodeField.Statement (.cmp x y z) := wordOp_append _ _
theorem OpcodeField.cmpi (x y z : Byte) : OpcodeField.Statement (.cmpi x y z) := wordOp_append _ _
theorem OpcodeField.cmpu (x y z : Byte) : OpcodeField.Statement (.cmpu x y z) := wordOp_append _ _
theorem OpcodeField.cmpui (x y z : Byte) : OpcodeField.Statement (.cmpui x y z) := wordOp_append _ _
theorem OpcodeField.neg (x y z : Byte) : OpcodeField.Statement (.neg x y z) := wordOp_append _ _
theorem OpcodeField.negi (x y z : Byte) : OpcodeField.Statement (.negi x y z) := wordOp_append _ _
theorem OpcodeField.negu (x y z : Byte) : OpcodeField.Statement (.negu x y z) := wordOp_append _ _
theorem OpcodeField.negui (x y z : Byte) : OpcodeField.Statement (.negui x y z) := wordOp_append _ _
theorem OpcodeField.sl (x y z : Byte) : OpcodeField.Statement (.sl x y z) := wordOp_append _ _
theorem OpcodeField.sli (x y z : Byte) : OpcodeField.Statement (.sli x y z) := wordOp_append _ _
theorem OpcodeField.slu (x y z : Byte) : OpcodeField.Statement (.slu x y z) := wordOp_append _ _
theorem OpcodeField.slui (x y z : Byte) : OpcodeField.Statement (.slui x y z) := wordOp_append _ _
theorem OpcodeField.sr (x y z : Byte) : OpcodeField.Statement (.sr x y z) := wordOp_append _ _
theorem OpcodeField.sri (x y z : Byte) : OpcodeField.Statement (.sri x y z) := wordOp_append _ _
theorem OpcodeField.sru (x y z : Byte) : OpcodeField.Statement (.sru x y z) := wordOp_append _ _
theorem OpcodeField.srui (x y z : Byte) : OpcodeField.Statement (.srui x y z) := wordOp_append _ _
theorem OpcodeField.bn (x : Byte) (yz : Wyde) : OpcodeField.Statement (.bn x yz) := wordOp_append _ _
theorem OpcodeField.bnb (x : Byte) (yz : Wyde) : OpcodeField.Statement (.bnb x yz) := wordOp_append _ _
theorem OpcodeField.bz (x : Byte) (yz : Wyde) : OpcodeField.Statement (.bz x yz) := wordOp_append _ _
theorem OpcodeField.bzb (x : Byte) (yz : Wyde) : OpcodeField.Statement (.bzb x yz) := wordOp_append _ _
theorem OpcodeField.bp (x : Byte) (yz : Wyde) : OpcodeField.Statement (.bp x yz) := wordOp_append _ _
theorem OpcodeField.bpb (x : Byte) (yz : Wyde) : OpcodeField.Statement (.bpb x yz) := wordOp_append _ _
theorem OpcodeField.bod (x : Byte) (yz : Wyde) : OpcodeField.Statement (.bod x yz) := wordOp_append _ _
theorem OpcodeField.bodb (x : Byte) (yz : Wyde) : OpcodeField.Statement (.bodb x yz) := wordOp_append _ _
theorem OpcodeField.bnn (x : Byte) (yz : Wyde) : OpcodeField.Statement (.bnn x yz) := wordOp_append _ _
theorem OpcodeField.bnnb (x : Byte) (yz : Wyde) : OpcodeField.Statement (.bnnb x yz) := wordOp_append _ _
theorem OpcodeField.bnz (x : Byte) (yz : Wyde) : OpcodeField.Statement (.bnz x yz) := wordOp_append _ _
theorem OpcodeField.bnzb (x : Byte) (yz : Wyde) : OpcodeField.Statement (.bnzb x yz) := wordOp_append _ _
theorem OpcodeField.bnp (x : Byte) (yz : Wyde) : OpcodeField.Statement (.bnp x yz) := wordOp_append _ _
theorem OpcodeField.bnpb (x : Byte) (yz : Wyde) : OpcodeField.Statement (.bnpb x yz) := wordOp_append _ _
theorem OpcodeField.bev (x : Byte) (yz : Wyde) : OpcodeField.Statement (.bev x yz) := wordOp_append _ _
theorem OpcodeField.bevb (x : Byte) (yz : Wyde) : OpcodeField.Statement (.bevb x yz) := wordOp_append _ _
theorem OpcodeField.pbn (x : Byte) (yz : Wyde) : OpcodeField.Statement (.pbn x yz) := wordOp_append _ _
theorem OpcodeField.pbnb (x : Byte) (yz : Wyde) : OpcodeField.Statement (.pbnb x yz) := wordOp_append _ _
theorem OpcodeField.pbz (x : Byte) (yz : Wyde) : OpcodeField.Statement (.pbz x yz) := wordOp_append _ _
theorem OpcodeField.pbzb (x : Byte) (yz : Wyde) : OpcodeField.Statement (.pbzb x yz) := wordOp_append _ _
theorem OpcodeField.pbp (x : Byte) (yz : Wyde) : OpcodeField.Statement (.pbp x yz) := wordOp_append _ _
theorem OpcodeField.pbpb (x : Byte) (yz : Wyde) : OpcodeField.Statement (.pbpb x yz) := wordOp_append _ _
theorem OpcodeField.pbod (x : Byte) (yz : Wyde) : OpcodeField.Statement (.pbod x yz) := wordOp_append _ _
theorem OpcodeField.pbodb (x : Byte) (yz : Wyde) : OpcodeField.Statement (.pbodb x yz) := wordOp_append _ _
theorem OpcodeField.pbnn (x : Byte) (yz : Wyde) : OpcodeField.Statement (.pbnn x yz) := wordOp_append _ _
theorem OpcodeField.pbnnb (x : Byte) (yz : Wyde) : OpcodeField.Statement (.pbnnb x yz) := wordOp_append _ _
theorem OpcodeField.pbnz (x : Byte) (yz : Wyde) : OpcodeField.Statement (.pbnz x yz) := wordOp_append _ _
theorem OpcodeField.pbnzb (x : Byte) (yz : Wyde) : OpcodeField.Statement (.pbnzb x yz) := wordOp_append _ _
theorem OpcodeField.pbnp (x : Byte) (yz : Wyde) : OpcodeField.Statement (.pbnp x yz) := wordOp_append _ _
theorem OpcodeField.pbnpb (x : Byte) (yz : Wyde) : OpcodeField.Statement (.pbnpb x yz) := wordOp_append _ _
theorem OpcodeField.pbev (x : Byte) (yz : Wyde) : OpcodeField.Statement (.pbev x yz) := wordOp_append _ _
theorem OpcodeField.pbevb (x : Byte) (yz : Wyde) : OpcodeField.Statement (.pbevb x yz) := wordOp_append _ _
theorem OpcodeField.csn (x y z : Byte) : OpcodeField.Statement (.csn x y z) := wordOp_append _ _
theorem OpcodeField.csni (x y z : Byte) : OpcodeField.Statement (.csni x y z) := wordOp_append _ _
theorem OpcodeField.csz (x y z : Byte) : OpcodeField.Statement (.csz x y z) := wordOp_append _ _
theorem OpcodeField.cszi (x y z : Byte) : OpcodeField.Statement (.cszi x y z) := wordOp_append _ _
theorem OpcodeField.csp (x y z : Byte) : OpcodeField.Statement (.csp x y z) := wordOp_append _ _
theorem OpcodeField.cspi (x y z : Byte) : OpcodeField.Statement (.cspi x y z) := wordOp_append _ _
theorem OpcodeField.csod (x y z : Byte) : OpcodeField.Statement (.csod x y z) := wordOp_append _ _
theorem OpcodeField.csodi (x y z : Byte) : OpcodeField.Statement (.csodi x y z) := wordOp_append _ _
theorem OpcodeField.csnn (x y z : Byte) : OpcodeField.Statement (.csnn x y z) := wordOp_append _ _
theorem OpcodeField.csnni (x y z : Byte) : OpcodeField.Statement (.csnni x y z) := wordOp_append _ _
theorem OpcodeField.csnz (x y z : Byte) : OpcodeField.Statement (.csnz x y z) := wordOp_append _ _
theorem OpcodeField.csnzi (x y z : Byte) : OpcodeField.Statement (.csnzi x y z) := wordOp_append _ _
theorem OpcodeField.csnp (x y z : Byte) : OpcodeField.Statement (.csnp x y z) := wordOp_append _ _
theorem OpcodeField.csnpi (x y z : Byte) : OpcodeField.Statement (.csnpi x y z) := wordOp_append _ _
theorem OpcodeField.csev (x y z : Byte) : OpcodeField.Statement (.csev x y z) := wordOp_append _ _
theorem OpcodeField.csevi (x y z : Byte) : OpcodeField.Statement (.csevi x y z) := wordOp_append _ _
theorem OpcodeField.zsn (x y z : Byte) : OpcodeField.Statement (.zsn x y z) := wordOp_append _ _
theorem OpcodeField.zsni (x y z : Byte) : OpcodeField.Statement (.zsni x y z) := wordOp_append _ _
theorem OpcodeField.zsz (x y z : Byte) : OpcodeField.Statement (.zsz x y z) := wordOp_append _ _
theorem OpcodeField.zszi (x y z : Byte) : OpcodeField.Statement (.zszi x y z) := wordOp_append _ _
theorem OpcodeField.zsp (x y z : Byte) : OpcodeField.Statement (.zsp x y z) := wordOp_append _ _
theorem OpcodeField.zspi (x y z : Byte) : OpcodeField.Statement (.zspi x y z) := wordOp_append _ _
theorem OpcodeField.zsod (x y z : Byte) : OpcodeField.Statement (.zsod x y z) := wordOp_append _ _
theorem OpcodeField.zsodi (x y z : Byte) : OpcodeField.Statement (.zsodi x y z) := wordOp_append _ _
theorem OpcodeField.zsnn (x y z : Byte) : OpcodeField.Statement (.zsnn x y z) := wordOp_append _ _
theorem OpcodeField.zsnni (x y z : Byte) : OpcodeField.Statement (.zsnni x y z) := wordOp_append _ _
theorem OpcodeField.zsnz (x y z : Byte) : OpcodeField.Statement (.zsnz x y z) := wordOp_append _ _
theorem OpcodeField.zsnzi (x y z : Byte) : OpcodeField.Statement (.zsnzi x y z) := wordOp_append _ _
theorem OpcodeField.zsnp (x y z : Byte) : OpcodeField.Statement (.zsnp x y z) := wordOp_append _ _
theorem OpcodeField.zsnpi (x y z : Byte) : OpcodeField.Statement (.zsnpi x y z) := wordOp_append _ _
theorem OpcodeField.zsev (x y z : Byte) : OpcodeField.Statement (.zsev x y z) := wordOp_append _ _
theorem OpcodeField.zsevi (x y z : Byte) : OpcodeField.Statement (.zsevi x y z) := wordOp_append _ _
theorem OpcodeField.ldb (x y z : Byte) : OpcodeField.Statement (.ldb x y z) := wordOp_append _ _
theorem OpcodeField.ldbi (x y z : Byte) : OpcodeField.Statement (.ldbi x y z) := wordOp_append _ _
theorem OpcodeField.ldbu (x y z : Byte) : OpcodeField.Statement (.ldbu x y z) := wordOp_append _ _
theorem OpcodeField.ldbui (x y z : Byte) : OpcodeField.Statement (.ldbui x y z) := wordOp_append _ _
theorem OpcodeField.ldw (x y z : Byte) : OpcodeField.Statement (.ldw x y z) := wordOp_append _ _
theorem OpcodeField.ldwi (x y z : Byte) : OpcodeField.Statement (.ldwi x y z) := wordOp_append _ _
theorem OpcodeField.ldwu (x y z : Byte) : OpcodeField.Statement (.ldwu x y z) := wordOp_append _ _
theorem OpcodeField.ldwui (x y z : Byte) : OpcodeField.Statement (.ldwui x y z) := wordOp_append _ _
theorem OpcodeField.ldt (x y z : Byte) : OpcodeField.Statement (.ldt x y z) := wordOp_append _ _
theorem OpcodeField.ldti (x y z : Byte) : OpcodeField.Statement (.ldti x y z) := wordOp_append _ _
theorem OpcodeField.ldtu (x y z : Byte) : OpcodeField.Statement (.ldtu x y z) := wordOp_append _ _
theorem OpcodeField.ldtui (x y z : Byte) : OpcodeField.Statement (.ldtui x y z) := wordOp_append _ _
theorem OpcodeField.ldo (x y z : Byte) : OpcodeField.Statement (.ldo x y z) := wordOp_append _ _
theorem OpcodeField.ldoi (x y z : Byte) : OpcodeField.Statement (.ldoi x y z) := wordOp_append _ _
theorem OpcodeField.ldou (x y z : Byte) : OpcodeField.Statement (.ldou x y z) := wordOp_append _ _
theorem OpcodeField.ldoui (x y z : Byte) : OpcodeField.Statement (.ldoui x y z) := wordOp_append _ _
theorem OpcodeField.ldsf (x y z : Byte) : OpcodeField.Statement (.ldsf x y z) := wordOp_append _ _
theorem OpcodeField.ldsfi (x y z : Byte) : OpcodeField.Statement (.ldsfi x y z) := wordOp_append _ _
theorem OpcodeField.ldht (x y z : Byte) : OpcodeField.Statement (.ldht x y z) := wordOp_append _ _
theorem OpcodeField.ldhti (x y z : Byte) : OpcodeField.Statement (.ldhti x y z) := wordOp_append _ _
theorem OpcodeField.cswap (x y z : Byte) : OpcodeField.Statement (.cswap x y z) := wordOp_append _ _
theorem OpcodeField.cswapi (x y z : Byte) : OpcodeField.Statement (.cswapi x y z) := wordOp_append _ _
theorem OpcodeField.ldunc (x y z : Byte) : OpcodeField.Statement (.ldunc x y z) := wordOp_append _ _
theorem OpcodeField.ldunci (x y z : Byte) : OpcodeField.Statement (.ldunci x y z) := wordOp_append _ _
theorem OpcodeField.ldvts : OpcodeField.Statement .ldvts := wordOp_append _ _
theorem OpcodeField.ldvtsi : OpcodeField.Statement .ldvtsi := wordOp_append _ _
theorem OpcodeField.preld : OpcodeField.Statement .preld := wordOp_append _ _
theorem OpcodeField.preldi : OpcodeField.Statement .preldi := wordOp_append _ _
theorem OpcodeField.prego : OpcodeField.Statement .prego := wordOp_append _ _
theorem OpcodeField.pregoi : OpcodeField.Statement .pregoi := wordOp_append _ _
theorem OpcodeField.go (x y z : Byte) : OpcodeField.Statement (.go x y z) := wordOp_append _ _
theorem OpcodeField.goi (x y z : Byte) : OpcodeField.Statement (.goi x y z) := wordOp_append _ _
theorem OpcodeField.stb (x y z : Byte) : OpcodeField.Statement (.stb x y z) := wordOp_append _ _
theorem OpcodeField.stbi (x y z : Byte) : OpcodeField.Statement (.stbi x y z) := wordOp_append _ _
theorem OpcodeField.stbu (x y z : Byte) : OpcodeField.Statement (.stbu x y z) := wordOp_append _ _
theorem OpcodeField.stbui (x y z : Byte) : OpcodeField.Statement (.stbui x y z) := wordOp_append _ _
theorem OpcodeField.stw (x y z : Byte) : OpcodeField.Statement (.stw x y z) := wordOp_append _ _
theorem OpcodeField.stwi (x y z : Byte) : OpcodeField.Statement (.stwi x y z) := wordOp_append _ _
theorem OpcodeField.stwu (x y z : Byte) : OpcodeField.Statement (.stwu x y z) := wordOp_append _ _
theorem OpcodeField.stwui (x y z : Byte) : OpcodeField.Statement (.stwui x y z) := wordOp_append _ _
theorem OpcodeField.stt (x y z : Byte) : OpcodeField.Statement (.stt x y z) := wordOp_append _ _
theorem OpcodeField.stti (x y z : Byte) : OpcodeField.Statement (.stti x y z) := wordOp_append _ _
theorem OpcodeField.sttu (x y z : Byte) : OpcodeField.Statement (.sttu x y z) := wordOp_append _ _
theorem OpcodeField.sttui (x y z : Byte) : OpcodeField.Statement (.sttui x y z) := wordOp_append _ _
theorem OpcodeField.sto (x y z : Byte) : OpcodeField.Statement (.sto x y z) := wordOp_append _ _
theorem OpcodeField.stoi (x y z : Byte) : OpcodeField.Statement (.stoi x y z) := wordOp_append _ _
theorem OpcodeField.stou (x y z : Byte) : OpcodeField.Statement (.stou x y z) := wordOp_append _ _
theorem OpcodeField.stoui (x y z : Byte) : OpcodeField.Statement (.stoui x y z) := wordOp_append _ _
theorem OpcodeField.stsf (x y z : Byte) : OpcodeField.Statement (.stsf x y z) := wordOp_append _ _
theorem OpcodeField.stsfi (x y z : Byte) : OpcodeField.Statement (.stsfi x y z) := wordOp_append _ _
theorem OpcodeField.stht (x y z : Byte) : OpcodeField.Statement (.stht x y z) := wordOp_append _ _
theorem OpcodeField.sthti (x y z : Byte) : OpcodeField.Statement (.sthti x y z) := wordOp_append _ _
theorem OpcodeField.stco (x y z : Byte) : OpcodeField.Statement (.stco x y z) := wordOp_append _ _
theorem OpcodeField.stcoi (x y z : Byte) : OpcodeField.Statement (.stcoi x y z) := wordOp_append _ _
theorem OpcodeField.stunc (x y z : Byte) : OpcodeField.Statement (.stunc x y z) := wordOp_append _ _
theorem OpcodeField.stunci (x y z : Byte) : OpcodeField.Statement (.stunci x y z) := wordOp_append _ _
theorem OpcodeField.syncd : OpcodeField.Statement .syncd := wordOp_append _ _
theorem OpcodeField.syncdi : OpcodeField.Statement .syncdi := wordOp_append _ _
theorem OpcodeField.prest : OpcodeField.Statement .prest := wordOp_append _ _
theorem OpcodeField.presti : OpcodeField.Statement .presti := wordOp_append _ _
theorem OpcodeField.syncid : OpcodeField.Statement .syncid := wordOp_append _ _
theorem OpcodeField.syncidi : OpcodeField.Statement .syncidi := wordOp_append _ _
theorem OpcodeField.pushgo (x y z : Byte) : OpcodeField.Statement (.pushgo x y z) := wordOp_append _ _
theorem OpcodeField.pushgoi (x y z : Byte) : OpcodeField.Statement (.pushgoi x y z) := wordOp_append _ _
theorem OpcodeField.or (x y z : Byte) : OpcodeField.Statement (.or x y z) := wordOp_append _ _
theorem OpcodeField.ori (x y z : Byte) : OpcodeField.Statement (.ori x y z) := wordOp_append _ _
theorem OpcodeField.orn (x y z : Byte) : OpcodeField.Statement (.orn x y z) := wordOp_append _ _
theorem OpcodeField.orni (x y z : Byte) : OpcodeField.Statement (.orni x y z) := wordOp_append _ _
theorem OpcodeField.nor (x y z : Byte) : OpcodeField.Statement (.nor x y z) := wordOp_append _ _
theorem OpcodeField.nori (x y z : Byte) : OpcodeField.Statement (.nori x y z) := wordOp_append _ _
theorem OpcodeField.xor (x y z : Byte) : OpcodeField.Statement (.xor x y z) := wordOp_append _ _
theorem OpcodeField.xori (x y z : Byte) : OpcodeField.Statement (.xori x y z) := wordOp_append _ _
theorem OpcodeField.and (x y z : Byte) : OpcodeField.Statement (.and x y z) := wordOp_append _ _
theorem OpcodeField.andi (x y z : Byte) : OpcodeField.Statement (.andi x y z) := wordOp_append _ _
theorem OpcodeField.andn (x y z : Byte) : OpcodeField.Statement (.andn x y z) := wordOp_append _ _
theorem OpcodeField.andni (x y z : Byte) : OpcodeField.Statement (.andni x y z) := wordOp_append _ _
theorem OpcodeField.nand (x y z : Byte) : OpcodeField.Statement (.nand x y z) := wordOp_append _ _
theorem OpcodeField.nandi (x y z : Byte) : OpcodeField.Statement (.nandi x y z) := wordOp_append _ _
theorem OpcodeField.nxor (x y z : Byte) : OpcodeField.Statement (.nxor x y z) := wordOp_append _ _
theorem OpcodeField.nxori (x y z : Byte) : OpcodeField.Statement (.nxori x y z) := wordOp_append _ _
theorem OpcodeField.bdif (x y z : Byte) : OpcodeField.Statement (.bdif x y z) := wordOp_append _ _
theorem OpcodeField.bdifi (x y z : Byte) : OpcodeField.Statement (.bdifi x y z) := wordOp_append _ _
theorem OpcodeField.wdif (x y z : Byte) : OpcodeField.Statement (.wdif x y z) := wordOp_append _ _
theorem OpcodeField.wdifi (x y z : Byte) : OpcodeField.Statement (.wdifi x y z) := wordOp_append _ _
theorem OpcodeField.tdif (x y z : Byte) : OpcodeField.Statement (.tdif x y z) := wordOp_append _ _
theorem OpcodeField.tdifi (x y z : Byte) : OpcodeField.Statement (.tdifi x y z) := wordOp_append _ _
theorem OpcodeField.odif (x y z : Byte) : OpcodeField.Statement (.odif x y z) := wordOp_append _ _
theorem OpcodeField.odifi (x y z : Byte) : OpcodeField.Statement (.odifi x y z) := wordOp_append _ _
theorem OpcodeField.mux (x y z : Byte) : OpcodeField.Statement (.mux x y z) := wordOp_append _ _
theorem OpcodeField.muxi (x y z : Byte) : OpcodeField.Statement (.muxi x y z) := wordOp_append _ _
theorem OpcodeField.sadd (x y z : Byte) : OpcodeField.Statement (.sadd x y z) := wordOp_append _ _
theorem OpcodeField.saddi (x y z : Byte) : OpcodeField.Statement (.saddi x y z) := wordOp_append _ _
theorem OpcodeField.mor (x y z : Byte) : OpcodeField.Statement (.mor x y z) := wordOp_append _ _
theorem OpcodeField.mori (x y z : Byte) : OpcodeField.Statement (.mori x y z) := wordOp_append _ _
theorem OpcodeField.mxor (x y z : Byte) : OpcodeField.Statement (.mxor x y z) := wordOp_append _ _
theorem OpcodeField.mxori (x y z : Byte) : OpcodeField.Statement (.mxori x y z) := wordOp_append _ _
theorem OpcodeField.seth (x : Byte) (yz : Wyde) : OpcodeField.Statement (.seth x yz) := wordOp_append _ _
theorem OpcodeField.setmh (x : Byte) (yz : Wyde) : OpcodeField.Statement (.setmh x yz) := wordOp_append _ _
theorem OpcodeField.setml (x : Byte) (yz : Wyde) : OpcodeField.Statement (.setml x yz) := wordOp_append _ _
theorem OpcodeField.setl (x : Byte) (yz : Wyde) : OpcodeField.Statement (.setl x yz) := wordOp_append _ _
theorem OpcodeField.inch (x : Byte) (yz : Wyde) : OpcodeField.Statement (.inch x yz) := wordOp_append _ _
theorem OpcodeField.incmh (x : Byte) (yz : Wyde) : OpcodeField.Statement (.incmh x yz) := wordOp_append _ _
theorem OpcodeField.incml (x : Byte) (yz : Wyde) : OpcodeField.Statement (.incml x yz) := wordOp_append _ _
theorem OpcodeField.incl (x : Byte) (yz : Wyde) : OpcodeField.Statement (.incl x yz) := wordOp_append _ _
theorem OpcodeField.orh (x : Byte) (yz : Wyde) : OpcodeField.Statement (.orh x yz) := wordOp_append _ _
theorem OpcodeField.ormh (x : Byte) (yz : Wyde) : OpcodeField.Statement (.ormh x yz) := wordOp_append _ _
theorem OpcodeField.orml (x : Byte) (yz : Wyde) : OpcodeField.Statement (.orml x yz) := wordOp_append _ _
theorem OpcodeField.orl (x : Byte) (yz : Wyde) : OpcodeField.Statement (.orl x yz) := wordOp_append _ _
theorem OpcodeField.andnh (x : Byte) (yz : Wyde) : OpcodeField.Statement (.andnh x yz) := wordOp_append _ _
theorem OpcodeField.andnmh (x : Byte) (yz : Wyde) : OpcodeField.Statement (.andnmh x yz) := wordOp_append _ _
theorem OpcodeField.andnml (x : Byte) (yz : Wyde) : OpcodeField.Statement (.andnml x yz) := wordOp_append _ _
theorem OpcodeField.andnl (x : Byte) (yz : Wyde) : OpcodeField.Statement (.andnl x yz) := wordOp_append _ _
theorem OpcodeField.jmp (xyz : BitVec 24) : OpcodeField.Statement (.jmp xyz) := wordOp_append _ _
theorem OpcodeField.jmpb (xyz : BitVec 24) : OpcodeField.Statement (.jmpb xyz) := wordOp_append _ _
theorem OpcodeField.pushj (x : Byte) (yz : Wyde) : OpcodeField.Statement (.pushj x yz) := wordOp_append _ _
theorem OpcodeField.pushjb (x : Byte) (yz : Wyde) : OpcodeField.Statement (.pushjb x yz) := wordOp_append _ _
theorem OpcodeField.geta (x : Byte) (yz : Wyde) : OpcodeField.Statement (.geta x yz) := wordOp_append _ _
theorem OpcodeField.getab (x : Byte) (yz : Wyde) : OpcodeField.Statement (.getab x yz) := wordOp_append _ _
theorem OpcodeField.put (x y z : Byte) : OpcodeField.Statement (.put x y z) := wordOp_append _ _
theorem OpcodeField.puti (x y z : Byte) : OpcodeField.Statement (.puti x y z) := wordOp_append _ _
theorem OpcodeField.pop (x : Byte) (yz : Wyde) : OpcodeField.Statement (.pop x yz) := wordOp_append _ _
theorem OpcodeField.resume (x y z : Byte) : OpcodeField.Statement (.resume x y z) := wordOp_append _ _
theorem OpcodeField.save (x y z : Byte) : OpcodeField.Statement (.save x y z) := wordOp_append _ _
theorem OpcodeField.unsave (x y z : Byte) : OpcodeField.Statement (.unsave x y z) := wordOp_append _ _
theorem OpcodeField.sync : OpcodeField.Statement .sync := wordOp_append _ _
theorem OpcodeField.swym : OpcodeField.Statement .swym := wordOp_append _ _
theorem OpcodeField.get (x y z : Byte) : OpcodeField.Statement (.get x y z) := wordOp_append _ _
theorem OpcodeField.trip (x y z : Byte) : OpcodeField.Statement (.trip x y z) := wordOp_append _ _

end Sys2Proof.Laws
end

