-- ==== Sys2Proof/Tests/Slice0.lean ====
section
/-! SUPPORT. Tests: the decoding of one word of every row of the opcode table, the refusals of `wellFormed`, vectors of
95_test_vectors.md, and for every statement with hypotheses a witness that meets them. Expected results are the spec's
own (the row of 95_test_vectors.md is named) or worked out by hand from the rule named. -/

namespace Sys2Proof.Tests

set_option Elab.async false

open Sys2Proof Sys2Proof.Machine

/-! ### Helpers -/

/-- The reset state with these locals, special registers and memory. -/
def sample (frame : List Word) (sr : Specials := Specials.reset) (mem : Memory := []) : State :=
  { State.reset with frame := frame, sr := sr, mem := mem }

/-- The same with the word placed at `pc`, as the vectors of 95_test_vectors.md start. -/
def started (frame : List Word) (w : Nat) (sr : Specials := Specials.reset) (mem : Memory := []) : State :=
  (sample frame sr mem).withFetchWord 32 w

/-- A view of the next state; none when there is none. -/
def seen {α : Type} (f : State → α) (r : Result) : Option α :=
  match r with
  | .next t => some (f t)
  | .fault _ => none
  | .refused _ => none

/-- `$1`, rA and `pc` after one step. -/
def ran (frame : List Word) (w : Nat) (sr : Specials := Specials.reset) (mem : Memory := []) :
    Option (Word × Word × Word) :=
  seen (fun t => (t.reg 1, t.sr.rA, t.pc)) (step (started frame w sr mem))

/-- rA, `pc` and the status after one step. -/
def stopped (frame : List Word) (w : Nat) (sr : Specials := Specials.reset) (mem : Memory := []) :
    Option (Word × Word × Status) :=
  seen (fun t => (t.sr.rA, t.pc, t.status)) (step (started frame w sr mem))

/-- The octa at `#2000000000000000`, rA and `pc` after one step. -/
def stored (frame : List Word) (w : Nat) (sr : Specials := Specials.reset) (mem : Memory := []) :
    Option (Word × Word × Word) :=
  seen (fun t => (BitVec.ofNat 64 (t.mem.load 8 0x2000000000000000), t.sr.rA, t.pc)) (step (started frame w sr mem))

/-- The octa `#0123456789ABCDEF` at `#2000000000000000`, as the vectors of section 43 have it. -/
def octaMemory : Memory := Memory.store [] 8 0x2000000000000000 0x0123456789ABCDEF

/-! ### One word of every row of the opcode table (30_encoding.md R121, R135), with X = 1, Y = 2, Z = 3 -/

theorem test_decode_row_0 :
    decode 0x00010203#32 = .trap 1 2 3 ∧ decode 0x01010203#32 = .fcmp 1 2 3 ∧ decode 0x02010203#32 = .funop 1 2 3 ∧
    decode 0x03010203#32 = .feql 1 2 3 ∧ decode 0x04010203#32 = .fadd 1 2 3 ∧ decode 0x05010203#32 = .fix 1 2 3 ∧
    decode 0x06010203#32 = .fsub 1 2 3 ∧ decode 0x07010203#32 = .fixu 1 2 3 ∧ decode 0x08010203#32 = .flot 1 2 3 ∧
    decode 0x09010203#32 = .floti 1 2 3 ∧ decode 0x0A010203#32 = .flotu 1 2 3 ∧
    decode 0x0B010203#32 = .flotui 1 2 3 ∧ decode 0x0C010203#32 = .sflot 1 2 3 ∧
    decode 0x0D010203#32 = .sfloti 1 2 3 ∧ decode 0x0E010203#32 = .sflotu 1 2 3 ∧
    decode 0x0F010203#32 = .sflotui 1 2 3 := by decide

theorem test_decode_row_1 :
    decode 0x10010203#32 = .fmul 1 2 3 ∧ decode 0x11010203#32 = .fcmpe 1 2 3 ∧ decode 0x12010203#32 = .fune 1 2 3 ∧
    decode 0x13010203#32 = .feqle 1 2 3 ∧ decode 0x14010203#32 = .fdiv 1 2 3 ∧ decode 0x15010203#32 = .fsqrt 1 2 3 ∧
    decode 0x16010203#32 = .frem 1 2 3 ∧ decode 0x17010203#32 = .fint 1 2 3 ∧ decode 0x18010203#32 = .mul 1 2 3 ∧
    decode 0x19010203#32 = .muli 1 2 3 ∧ decode 0x1A010203#32 = .mulu 1 2 3 ∧ decode 0x1B010203#32 = .mului 1 2 3 ∧
    decode 0x1C010203#32 = .div 1 2 3 ∧ decode 0x1D010203#32 = .divi 1 2 3 ∧ decode 0x1E010203#32 = .divu 1 2 3 ∧
    decode 0x1F010203#32 = .divui 1 2 3 := by decide

theorem test_decode_row_2 :
    decode 0x20010203#32 = .add 1 2 3 ∧ decode 0x21010203#32 = .addi 1 2 3 ∧ decode 0x22010203#32 = .addu 1 2 3 ∧
    decode 0x23010203#32 = .addui 1 2 3 ∧ decode 0x24010203#32 = .sub 1 2 3 ∧ decode 0x25010203#32 = .subi 1 2 3 ∧
    decode 0x26010203#32 = .subu 1 2 3 ∧ decode 0x27010203#32 = .subui 1 2 3 ∧
    decode 0x28010203#32 = .twoAddu 1 2 3 ∧ decode 0x29010203#32 = .twoAddui 1 2 3 ∧
    decode 0x2A010203#32 = .fourAddu 1 2 3 ∧ decode 0x2B010203#32 = .fourAddui 1 2 3 ∧
    decode 0x2C010203#32 = .eightAddu 1 2 3 ∧ decode 0x2D010203#32 = .eightAddui 1 2 3 ∧
    decode 0x2E010203#32 = .sixteenAddu 1 2 3 ∧ decode 0x2F010203#32 = .sixteenAddui 1 2 3 := by decide

theorem test_decode_row_3 :
    decode 0x30010203#32 = .cmp 1 2 3 ∧ decode 0x31010203#32 = .cmpi 1 2 3 ∧ decode 0x32010203#32 = .cmpu 1 2 3 ∧
    decode 0x33010203#32 = .cmpui 1 2 3 ∧ decode 0x34010203#32 = .neg 1 2 3 ∧ decode 0x35010203#32 = .negi 1 2 3 ∧
    decode 0x36010203#32 = .negu 1 2 3 ∧ decode 0x37010203#32 = .negui 1 2 3 ∧ decode 0x38010203#32 = .sl 1 2 3 ∧
    decode 0x39010203#32 = .sli 1 2 3 ∧ decode 0x3A010203#32 = .slu 1 2 3 ∧ decode 0x3B010203#32 = .slui 1 2 3 ∧
    decode 0x3C010203#32 = .sr 1 2 3 ∧ decode 0x3D010203#32 = .sri 1 2 3 ∧ decode 0x3E010203#32 = .sru 1 2 3 ∧
    decode 0x3F010203#32 = .srui 1 2 3 := by decide

theorem test_decode_row_4 :
    decode 0x40010203#32 = .bn 1 0x0203 ∧ decode 0x41010203#32 = .bnb 1 0x0203 ∧
    decode 0x42010203#32 = .bz 1 0x0203 ∧ decode 0x43010203#32 = .bzb 1 0x0203 ∧
    decode 0x44010203#32 = .bp 1 0x0203 ∧ decode 0x45010203#32 = .bpb 1 0x0203 ∧
    decode 0x46010203#32 = .bod 1 0x0203 ∧ decode 0x47010203#32 = .bodb 1 0x0203 ∧
    decode 0x48010203#32 = .bnn 1 0x0203 ∧ decode 0x49010203#32 = .bnnb 1 0x0203 ∧
    decode 0x4A010203#32 = .bnz 1 0x0203 ∧ decode 0x4B010203#32 = .bnzb 1 0x0203 ∧
    decode 0x4C010203#32 = .bnp 1 0x0203 ∧ decode 0x4D010203#32 = .bnpb 1 0x0203 ∧
    decode 0x4E010203#32 = .bev 1 0x0203 ∧ decode 0x4F010203#32 = .bevb 1 0x0203 := by decide

theorem test_decode_row_5 :
    decode 0x50010203#32 = .pbn 1 0x0203 ∧ decode 0x51010203#32 = .pbnb 1 0x0203 ∧
    decode 0x52010203#32 = .pbz 1 0x0203 ∧ decode 0x53010203#32 = .pbzb 1 0x0203 ∧
    decode 0x54010203#32 = .pbp 1 0x0203 ∧ decode 0x55010203#32 = .pbpb 1 0x0203 ∧
    decode 0x56010203#32 = .pbod 1 0x0203 ∧ decode 0x57010203#32 = .pbodb 1 0x0203 ∧
    decode 0x58010203#32 = .pbnn 1 0x0203 ∧ decode 0x59010203#32 = .pbnnb 1 0x0203 ∧
    decode 0x5A010203#32 = .pbnz 1 0x0203 ∧ decode 0x5B010203#32 = .pbnzb 1 0x0203 ∧
    decode 0x5C010203#32 = .pbnp 1 0x0203 ∧ decode 0x5D010203#32 = .pbnpb 1 0x0203 ∧
    decode 0x5E010203#32 = .pbev 1 0x0203 ∧ decode 0x5F010203#32 = .pbevb 1 0x0203 := by decide

theorem test_decode_row_6 :
    decode 0x60010203#32 = .csn 1 2 3 ∧ decode 0x61010203#32 = .csni 1 2 3 ∧ decode 0x62010203#32 = .csz 1 2 3 ∧
    decode 0x63010203#32 = .cszi 1 2 3 ∧ decode 0x64010203#32 = .csp 1 2 3 ∧ decode 0x65010203#32 = .cspi 1 2 3 ∧
    decode 0x66010203#32 = .csod 1 2 3 ∧ decode 0x67010203#32 = .csodi 1 2 3 ∧ decode 0x68010203#32 = .csnn 1 2 3 ∧
    decode 0x69010203#32 = .csnni 1 2 3 ∧ decode 0x6A010203#32 = .csnz 1 2 3 ∧ decode 0x6B010203#32 = .csnzi 1 2 3 ∧
    decode 0x6C010203#32 = .csnp 1 2 3 ∧ decode 0x6D010203#32 = .csnpi 1 2 3 ∧ decode 0x6E010203#32 = .csev 1 2 3 ∧
    decode 0x6F010203#32 = .csevi 1 2 3 := by decide

theorem test_decode_row_7 :
    decode 0x70010203#32 = .zsn 1 2 3 ∧ decode 0x71010203#32 = .zsni 1 2 3 ∧ decode 0x72010203#32 = .zsz 1 2 3 ∧
    decode 0x73010203#32 = .zszi 1 2 3 ∧ decode 0x74010203#32 = .zsp 1 2 3 ∧ decode 0x75010203#32 = .zspi 1 2 3 ∧
    decode 0x76010203#32 = .zsod 1 2 3 ∧ decode 0x77010203#32 = .zsodi 1 2 3 ∧ decode 0x78010203#32 = .zsnn 1 2 3 ∧
    decode 0x79010203#32 = .zsnni 1 2 3 ∧ decode 0x7A010203#32 = .zsnz 1 2 3 ∧ decode 0x7B010203#32 = .zsnzi 1 2 3 ∧
    decode 0x7C010203#32 = .zsnp 1 2 3 ∧ decode 0x7D010203#32 = .zsnpi 1 2 3 ∧ decode 0x7E010203#32 = .zsev 1 2 3 ∧
    decode 0x7F010203#32 = .zsevi 1 2 3 := by decide

theorem test_decode_row_8 :
    decode 0x80010203#32 = .ldb 1 2 3 ∧ decode 0x81010203#32 = .ldbi 1 2 3 ∧ decode 0x82010203#32 = .ldbu 1 2 3 ∧
    decode 0x83010203#32 = .ldbui 1 2 3 ∧ decode 0x84010203#32 = .ldw 1 2 3 ∧ decode 0x85010203#32 = .ldwi 1 2 3 ∧
    decode 0x86010203#32 = .ldwu 1 2 3 ∧ decode 0x87010203#32 = .ldwui 1 2 3 ∧ decode 0x88010203#32 = .ldt 1 2 3 ∧
    decode 0x89010203#32 = .ldti 1 2 3 ∧ decode 0x8A010203#32 = .ldtu 1 2 3 ∧ decode 0x8B010203#32 = .ldtui 1 2 3 ∧
    decode 0x8C010203#32 = .ldo 1 2 3 ∧ decode 0x8D010203#32 = .ldoi 1 2 3 ∧ decode 0x8E010203#32 = .ldou 1 2 3 ∧
    decode 0x8F010203#32 = .ldoui 1 2 3 := by decide

theorem test_decode_row_9 :
    decode 0x90010203#32 = .ldsf 1 2 3 ∧ decode 0x91010203#32 = .ldsfi 1 2 3 ∧ decode 0x92010203#32 = .ldht 1 2 3 ∧
    decode 0x93010203#32 = .ldhti 1 2 3 ∧ decode 0x94010203#32 = .cswap 1 2 3 ∧
    decode 0x95010203#32 = .cswapi 1 2 3 ∧ decode 0x96010203#32 = .ldunc 1 2 3 ∧
    decode 0x97010203#32 = .ldunci 1 2 3 ∧ decode 0x98010203#32 = .ldvts ∧ decode 0x99010203#32 = .ldvtsi ∧
    decode 0x9A010203#32 = .preld ∧ decode 0x9B010203#32 = .preldi ∧ decode 0x9C010203#32 = .prego ∧
    decode 0x9D010203#32 = .pregoi ∧ decode 0x9E010203#32 = .go 1 2 3 ∧ decode 0x9F010203#32 = .goi 1 2 3 := by decide

theorem test_decode_row_A :
    decode 0xA0010203#32 = .stb 1 2 3 ∧ decode 0xA1010203#32 = .stbi 1 2 3 ∧ decode 0xA2010203#32 = .stbu 1 2 3 ∧
    decode 0xA3010203#32 = .stbui 1 2 3 ∧ decode 0xA4010203#32 = .stw 1 2 3 ∧ decode 0xA5010203#32 = .stwi 1 2 3 ∧
    decode 0xA6010203#32 = .stwu 1 2 3 ∧ decode 0xA7010203#32 = .stwui 1 2 3 ∧ decode 0xA8010203#32 = .stt 1 2 3 ∧
    decode 0xA9010203#32 = .stti 1 2 3 ∧ decode 0xAA010203#32 = .sttu 1 2 3 ∧ decode 0xAB010203#32 = .sttui 1 2 3 ∧
    decode 0xAC010203#32 = .sto 1 2 3 ∧ decode 0xAD010203#32 = .stoi 1 2 3 ∧ decode 0xAE010203#32 = .stou 1 2 3 ∧
    decode 0xAF010203#32 = .stoui 1 2 3 := by decide

theorem test_decode_row_B :
    decode 0xB0010203#32 = .stsf 1 2 3 ∧ decode 0xB1010203#32 = .stsfi 1 2 3 ∧ decode 0xB2010203#32 = .stht 1 2 3 ∧
    decode 0xB3010203#32 = .sthti 1 2 3 ∧ decode 0xB4010203#32 = .stco 1 2 3 ∧ decode 0xB5010203#32 = .stcoi 1 2 3 ∧
    decode 0xB6010203#32 = .stunc 1 2 3 ∧ decode 0xB7010203#32 = .stunci 1 2 3 ∧ decode 0xB8010203#32 = .syncd ∧
    decode 0xB9010203#32 = .syncdi ∧ decode 0xBA010203#32 = .prest ∧ decode 0xBB010203#32 = .presti ∧
    decode 0xBC010203#32 = .syncid ∧ decode 0xBD010203#32 = .syncidi ∧ decode 0xBE010203#32 = .pushgo 1 2 3 ∧
    decode 0xBF010203#32 = .pushgoi 1 2 3 := by decide

theorem test_decode_row_C :
    decode 0xC0010203#32 = .or 1 2 3 ∧ decode 0xC1010203#32 = .ori 1 2 3 ∧ decode 0xC2010203#32 = .orn 1 2 3 ∧
    decode 0xC3010203#32 = .orni 1 2 3 ∧ decode 0xC4010203#32 = .nor 1 2 3 ∧ decode 0xC5010203#32 = .nori 1 2 3 ∧
    decode 0xC6010203#32 = .xor 1 2 3 ∧ decode 0xC7010203#32 = .xori 1 2 3 ∧ decode 0xC8010203#32 = .and 1 2 3 ∧
    decode 0xC9010203#32 = .andi 1 2 3 ∧ decode 0xCA010203#32 = .andn 1 2 3 ∧ decode 0xCB010203#32 = .andni 1 2 3 ∧
    decode 0xCC010203#32 = .nand 1 2 3 ∧ decode 0xCD010203#32 = .nandi 1 2 3 ∧ decode 0xCE010203#32 = .nxor 1 2 3 ∧
    decode 0xCF010203#32 = .nxori 1 2 3 := by decide

theorem test_decode_row_D :
    decode 0xD0010203#32 = .bdif 1 2 3 ∧ decode 0xD1010203#32 = .bdifi 1 2 3 ∧ decode 0xD2010203#32 = .wdif 1 2 3 ∧
    decode 0xD3010203#32 = .wdifi 1 2 3 ∧ decode 0xD4010203#32 = .tdif 1 2 3 ∧ decode 0xD5010203#32 = .tdifi 1 2 3 ∧
    decode 0xD6010203#32 = .odif 1 2 3 ∧ decode 0xD7010203#32 = .odifi 1 2 3 ∧ decode 0xD8010203#32 = .mux 1 2 3 ∧
    decode 0xD9010203#32 = .muxi 1 2 3 ∧ decode 0xDA010203#32 = .sadd 1 2 3 ∧ decode 0xDB010203#32 = .saddi 1 2 3 ∧
    decode 0xDC010203#32 = .mor 1 2 3 ∧ decode 0xDD010203#32 = .mori 1 2 3 ∧ decode 0xDE010203#32 = .mxor 1 2 3 ∧
    decode 0xDF010203#32 = .mxori 1 2 3 := by decide

theorem test_decode_row_E :
    decode 0xE0010203#32 = .seth 1 0x0203 ∧ decode 0xE1010203#32 = .setmh 1 0x0203 ∧
    decode 0xE2010203#32 = .setml 1 0x0203 ∧ decode 0xE3010203#32 = .setl 1 0x0203 ∧
    decode 0xE4010203#32 = .inch 1 0x0203 ∧ decode 0xE5010203#32 = .incmh 1 0x0203 ∧
    decode 0xE6010203#32 = .incml 1 0x0203 ∧ decode 0xE7010203#32 = .incl 1 0x0203 ∧
    decode 0xE8010203#32 = .orh 1 0x0203 ∧ decode 0xE9010203#32 = .ormh 1 0x0203 ∧
    decode 0xEA010203#32 = .orml 1 0x0203 ∧ decode 0xEB010203#32 = .orl 1 0x0203 ∧
    decode 0xEC010203#32 = .andnh 1 0x0203 ∧ decode 0xED010203#32 = .andnmh 1 0x0203 ∧
    decode 0xEE010203#32 = .andnml 1 0x0203 ∧ decode 0xEF010203#32 = .andnl 1 0x0203 := by decide

theorem test_decode_row_F :
    decode 0xF0010203#32 = .jmp 0x010203 ∧ decode 0xF1010203#32 = .jmpb 0x010203 ∧
    decode 0xF2010203#32 = .pushj 1 0x0203 ∧ decode 0xF3010203#32 = .pushjb 1 0x0203 ∧
    decode 0xF4010203#32 = .geta 1 0x0203 ∧ decode 0xF5010203#32 = .getab 1 0x0203 ∧
    decode 0xF6010203#32 = .put 1 2 3 ∧ decode 0xF7010203#32 = .puti 1 2 3 ∧ decode 0xF8010203#32 = .pop 1 0x0203 ∧
    decode 0xF9010203#32 = .resume 1 2 3 ∧ decode 0xFA010203#32 = .save 1 2 3 ∧
    decode 0xFB010203#32 = .unsave 1 2 3 ∧ decode 0xFC010203#32 = .sync ∧ decode 0xFD010203#32 = .swym ∧
    decode 0xFE010203#32 = .get 1 2 3 ∧ decode 0xFF010203#32 = .trip 1 2 3 := by decide

/-- What the host asks: the decoder on a table word, and a step from reset with it placed. -/
theorem test_decodeTableWord : decodeTableWord 32 0xE301CDEF = some (.setl 1 0xCDEF) ∧
    decodeTableWord 32 0x00000003 = some (.trap 0 0 3) ∧
    seen (fun t => (t.reg 1, t.pc)) (step (State.reset.withFetchWord 32 0xE301CDEF)) = some (0xCDEF, 0x104) := by decide

/-! ### `wellFormed` refuses an ill-formed term of each check -/

/-- 30_encoding.md R127: a rounding field of 5 and more, in each of the twelve instructions that have one. -/
theorem test_wellFormed_rounding :
    ([Instr.fix 1 5 2, .fixu 1 5 2, .flot 1 5 2, .floti 1 5 2, .flotu 1 5 2, .flotui 1 5 2, .sflot 1 5 2, .sfloti 1 5 2,
      .sflotu 1 5 2, .sflotui 1 5 2, .fsqrt 1 5 2, .fint 1 255 2].all fun i => !wellFormed i) = true ∧
    wellFormed (.fix 1 4 2) = true := by decide

/-- 30_encoding.md R128: a nonzero Y or a number of 32 and more in `GET`. -/
theorem test_wellFormed_get : wellFormed (.get 1 1 21) = false ∧ wellFormed (.get 1 0 32) = false ∧
    wellFormed (.get 1 0 31) = true := by decide

/-- 30_encoding.md R128, R130: the same in `PUT` and `PUTI`, and a register that cannot be written. -/
theorem test_wellFormed_put : wellFormed (.put 5 1 2) = false ∧ wellFormed (.puti 5 1 2) = false ∧
    wellFormed (.put 32 0 2) = false ∧ wellFormed (.puti 32 0 2) = false ∧ wellFormed (.put 9 0 2) = false ∧
    wellFormed (.puti 8 0 2) = false ∧ wellFormed (.puti 18 0 2) = false ∧ wellFormed (.put 19 0 2) = true ∧
    wellFormed (.puti 7 0 2) = true := by decide

/-- 47_system.md R489, R492: an unknown service and an unknown handle. -/
theorem test_wellFormed_trap : wellFormed (.trap 0 1 0) = false ∧ wellFormed (.trap 0 7 0) = false ∧
    wellFormed (.trap 0 7 3) = false ∧ wellFormed (.trap 0 7 2) = true ∧ wellFormed (.trap 9 0 255) = true := by decide

/-- 47_system.md R495: a nonzero Z in `RESUME`. -/
theorem test_wellFormed_resume : wellFormed (.resume 0 0 1) = false ∧ wellFormed (.resume 0 0 2) = false ∧
    wellFormed (.resume 7 7 0) = true := by decide

/-! ### Vectors of 95_test_vectors.md, part 2 -/

/-- Rows 40.2, 40.4 (R201). -/
theorem test_add :
    ran [0, 0, 0x7FFFFFFFFFFFFFFF, 1] 0x20010203 = some (0x8000000000000000, 0x40, 0x104) ∧
    ran [0, 0, 0x8000000000000000, 0xFFFFFFFFFFFFFFFF] 0x20010203 = some (0x7FFFFFFFFFFFFFFF, 0x40, 0x104) := by decide +kernel

/-- Row 40.5 (R201). -/
theorem test_addi :
    ran [0, 0, 0xFFFFFFFFFFFFFFFF] 0x210102FF = some (0xFE, 0, 0x104) := by decide +kernel

/-- Rows 40.3, 40.6 (R202). -/
theorem test_addu :
    ran [0, 0, 0x7FFFFFFFFFFFFFFF, 1] 0x22010203 = some (0x8000000000000000, 0, 0x104) ∧
    ran [0, 0, 0xFFFFFFFFFFFFFFFF, 2] 0x22010203 = some (1, 0, 0x104) := by decide +kernel

/-- Row 40.8 (R203). -/
theorem test_sub :
    ran [0, 0, 0x8000000000000000, 1] 0x24010203 = some (0x7FFFFFFFFFFFFFFF, 0x40, 0x104) := by decide +kernel

/-- Row 40.9 (R204). -/
theorem test_subu :
    ran [0, 0, 0, 1] 0x26010203 = some (0xFFFFFFFFFFFFFFFF, 0, 0x104) := by decide +kernel

/-- Rows 40.10, 40.11, 40.12, 40.13 (R205, R206, R207, R208). -/
theorem test_scaledAddu :
    ran [0, 0, 3, 5] 0x28010203 = some (0xB, 0, 0x104) ∧
    ran [0, 0, 3] 0x2B010201 = some (0xD, 0, 0x104) ∧
    ran [0, 0, 0x2000000000000000, 7] 0x2C010203 = some (7, 0, 0x104) ∧
    ran [0, 0, 0x1000000000000000, 1] 0x2E010203 = some (1, 0, 0x104) := by decide +kernel

/-- Rows 40.14, 40.15 (R209). -/
theorem test_mul :
    ran [0, 0, 0xFFFFFFFFFFFFFFFD, 5] 0x18010203 = some (0xFFFFFFFFFFFFFFF1, 0, 0x104) ∧
    ran [0, 0, 0x100000000, 0x100000000] 0x18010203 = some (0, 0x40, 0x104) := by decide +kernel

/-- Row 40.16 (R209). -/
theorem test_muli :
    ran [0, 0, 0x4000000000000000] 0x19010202 = some (0x8000000000000000, 0x40, 0x104) := by decide +kernel

/-- Row 40.17 (R210). -/
theorem test_mulu :
    seen (fun t => (t.reg 1, t.sr.rH, t.sr.rA)) (step (started [0, 0, 0xFFFFFFFFFFFFFFFF, 0xFFFFFFFFFFFFFFFF] 0x1A010203)) = some (1, 0xFFFFFFFFFFFFFFFE, 0) := by decide +kernel

/-- Row 40.18 (R210). -/
theorem test_mului :
    seen (fun t => (t.reg 1, t.sr.rH, t.sr.rA)) (step (started [0, 0, 0x1000000000000001] 0x1B010210)) = some (0x10, 1, 0) := by decide +kernel

/-- Rows 40.20, 40.24 (R211). -/
theorem test_div :
    seen (fun t => (t.reg 1, t.sr.rR, t.sr.rA)) (step (started [0, 0, 7, 0xFFFFFFFFFFFFFFFE] 0x1C010203)) = some (0xFFFFFFFFFFFFFFFC, 0xFFFFFFFFFFFFFFFF, 0) ∧
    seen (fun t => (t.reg 1, t.sr.rR, t.sr.rA)) (step (started [0, 0, 0x8000000000000000, 0xFFFFFFFFFFFFFFFF] 0x1C010203)) = some (0x8000000000000000, 0, 0x40) := by decide +kernel

/-- Rows 40.19, 40.22 (R211). -/
theorem test_div_more :
    seen (fun t => (t.reg 1, t.sr.rR, t.sr.rA)) (step (started [0, 0, 0xFFFFFFFFFFFFFFF9, 2] 0x1C010203)) = some (0xFFFFFFFFFFFFFFFC, 1, 0) ∧
    seen (fun t => (t.reg 1, t.sr.rR, t.sr.rA)) (step (started [0, 0, 7, 0] 0x1C010203)) = some (0, 7, 0x80) := by decide +kernel

/-- Rows 40.39, 40.23 (R211). -/
theorem test_divi :
    seen (fun t => (t.reg 1, t.sr.rR, t.sr.rA)) (step (started [0, 0, 0xFFFFFFFFFFFFFF3E] 0x1D010264)) = some (0xFFFFFFFFFFFFFFFE, 6, 0) ∧
    seen (fun t => (t.reg 1, t.sr.rR, t.sr.rA)) (step (started [0, 0, 0xFFFFFFFFFFFFFFFB] 0x1D010200)) = some (0, 0xFFFFFFFFFFFFFFFB, 0x80) := by decide +kernel

/-- Rows 40.26, 40.27 (R212). -/
theorem test_divu :
    seen (fun t => (t.reg 1, t.sr.rR, t.sr.rA)) (step (started [0, 0, 0, 2] 0x1E010203 { Specials.reset with rD := 1 })) = some (0x8000000000000000, 0, 0) ∧
    seen (fun t => (t.reg 1, t.sr.rR, t.sr.rA)) (step (started [0, 0, 9, 3] 0x1E010203 { Specials.reset with rD := 5 })) = some (5, 9, 0) := by decide +kernel

/-- Rows 40.29, 40.30 (R213). -/
theorem test_neg :
    ran [0, 0, 0, 5] 0x34010003 = some (0xFFFFFFFFFFFFFFFB, 0, 0x104) ∧
    ran [0, 0, 0, 0x8000000000000000] 0x34010003 = some (0x8000000000000000, 0x40, 0x104) := by decide +kernel

/-- Row 40.31 (R213). -/
theorem test_negi :
    ran [] 0x350101FF = some (0xFFFFFFFFFFFFFF02, 0, 0x104) := by decide +kernel

/-- Row 40.32 (R214). -/
theorem test_negu :
    ran [0, 0, 0, 1] 0x36010003 = some (0xFFFFFFFFFFFFFFFF, 0, 0x104) := by decide +kernel

/-- Row 40.33 (R215). -/
theorem test_cmp :
    ran [0, 0, 0xFFFFFFFFFFFFFFFF, 1] 0x30010203 = some (0xFFFFFFFFFFFFFFFF, 0, 0x104) := by decide +kernel

/-- Row 40.35 (R215). -/
theorem test_cmpi :
    ran [0, 0, 7] 0x31010207 = some (0, 0, 0x104) := by decide +kernel

/-- Row 40.34 (R216). -/
theorem test_cmpu :
    ran [0, 0, 0xFFFFFFFFFFFFFFFF, 1] 0x32010203 = some (1, 0, 0x104) := by decide +kernel

/-- Rows 41.1, 41.3 (R260, R261). -/
theorem test_or_orn :
    ran [0, 0, 0xF0, 0xF] 0xC0010203 = some (0xFF, 0, 0x104) ∧
    ran [0, 0, 0, 0xFF] 0xC2010203 = some (0xFFFFFFFFFFFFFF00, 0, 0x104) := by decide +kernel

/-- Row 41.2 (R260). -/
theorem test_ori :
    ran [0, 0, 0x123456789] 0xC1010200 = some (0x123456789, 0, 0x104) := by decide +kernel

/-- Rows 41.4, 41.5 (R262, R263). -/
theorem test_nor_xor :
    ran [0, 0, 0, 0] 0xC4010203 = some (0xFFFFFFFFFFFFFFFF, 0, 0x104) ∧
    ran [0, 0, 0xFF, 0xF] 0xC6010203 = some (0xF0, 0, 0x104) := by decide +kernel

/-- Rows 41.6, 41.7 (R264, R265). -/
theorem test_andi_andn :
    ran [0, 0, 0x123456789ABCDEF0] 0xC90102FF = some (0xF0, 0, 0x104) ∧
    ran [0, 0, 0xFF, 0xF] 0xCA010203 = some (0xF0, 0, 0x104) := by decide +kernel

/-- Rows 41.8, 41.9 (R266, R267). -/
theorem test_nand_nxor :
    ran [0, 0, 0xFFFFFFFFFFFFFFFF, 0xFFFFFFFFFFFFFFFF] 0xCC010203 = some (0, 0, 0x104) ∧
    ran [0, 0, 0, 0] 0xCE010203 = some (0xFFFFFFFFFFFFFFFF, 0, 0x104) := by decide +kernel

/-- Rows 41.10, 41.11 (R268). -/
theorem test_sl :
    ran [0, 0, 1, 0x3F] 0x38010203 = some (0x8000000000000000, 0x40, 0x104) ∧
    ran [0, 0, 0xFFFFFFFFFFFFFFFF, 0x3F] 0x38010203 = some (0x8000000000000000, 0, 0x104) := by decide +kernel

/-- Rows 41.12, 41.14 (R268). -/
theorem test_sli :
    ran [0, 0, 1] 0x39010240 = some (0, 0x40, 0x104) ∧
    ran [0, 0, 0xFFFFFFFFFFFFFFFD] 0x39010204 = some (0xFFFFFFFFFFFFFFD0, 0, 0x104) := by decide +kernel

/-- Row 41.15 (R269). -/
theorem test_slu :
    ran [0, 0, 0x8000000000000001, 1] 0x3A010203 = some (2, 0, 0x104) := by decide +kernel

/-- Rows 41.16, 41.18 (R270). -/
theorem test_sr :
    ran [0, 0, 0xFFFFFFFFFFFFFFF8, 1] 0x3C010203 = some (0xFFFFFFFFFFFFFFFC, 0, 0x104) ∧
    ran [0, 0, 7, 0xFFFFFFFFFFFFFFFF] 0x3C010203 = some (0, 0, 0x104) := by decide +kernel

/-- Row 41.17 (R270). -/
theorem test_sri :
    ran [0, 0, 0xFFFFFFFFFFFFFFF8] 0x3D010240 = some (0xFFFFFFFFFFFFFFFF, 0, 0x104) := by decide +kernel

/-- Row 41.19 (R271). -/
theorem test_sru :
    ran [0, 0, 0x8000000000000000, 0x3F] 0x3E010203 = some (1, 0, 0x104) := by decide +kernel

/-- Rows 41.20, 41.21 (R272, R273). -/
theorem test_bdif_wdif :
    ran [0, 0, 0x102030405060708, 0x201040305070608] 0xD0010203 = some (0x1000100000100, 0, 0x104) ∧
    ran [0, 0, 0x102030405060708, 0x201040305070608] 0xD2010203 = some (0x100, 0, 0x104) := by decide +kernel

/-- Rows 41.22, 41.24 (R274, R275). -/
theorem test_tdif_odif :
    ran [0, 0, 0x500000001, 0x300000002] 0xD4010203 = some (0x200000000, 0, 0x104) ∧
    ran [0, 0, 0xFFFFFFFFFFFFFFFF, 1] 0xD6010203 = some (0xFFFFFFFFFFFFFFFE, 0, 0x104) := by decide +kernel

/-- Rows 41.25, 41.26 (R276). -/
theorem test_mux :
    ran [0, 0, 0x1111111111111111, 0x2222222222222222] 0xD8010203 { Specials.reset with rM := 0xFF00FF00FF00FF00 } = some (0x1122112211221122, 0, 0x104) ∧
    ran [0, 0, 0x1111111111111111, 0x2222222222222222] 0xD8010203 = some (0x2222222222222222, 0, 0x104) := by decide +kernel

/-- Row 41.27 (R277). -/
theorem test_sadd :
    ran [0, 0, 0xF0F0, 0xFF00] 0xDA010203 = some (4, 0, 0x104) := by decide +kernel

/-- Row 41.28 (R277). -/
theorem test_saddi :
    ran [0, 0, 0xFFFFFFFFFFFFFFFF] 0xDB010200 = some (0x40, 0, 0x104) := by decide +kernel

/-- Rows 41.29, 41.31 (R278). -/
theorem test_mor :
    ran [0, 0, 0x102030405060708, 0x102040810204080] 0xDC010203 = some (0x807060504030201, 0, 0x104) ∧
    ran [0, 0, 0xFF, 0x101010101010101] 0xDC010203 = some (0xFFFFFFFFFFFFFFFF, 0, 0x104) := by decide +kernel

/-- Row 41.32 (R278). -/
theorem test_mori :
    ran [0, 0, 0x102030405060708] 0xDD0102FF = some (0xF, 0, 0x104) := by decide +kernel

/-- Row 41.33 (R279). -/
theorem test_mxor :
    ran [0, 0, 0xF01, 0x303] 0xDE010203 = some (0xE0E, 0, 0x104) := by decide +kernel

/-- Row 41.34 (R279). -/
theorem test_mxori :
    ran [0, 0, 0x102030405060708] 0xDF0102FF = some (8, 0, 0x104) := by decide +kernel

/-- Rows 42.1, 42.2, 42.3, 42.4 (R300, R301, R302, R303). -/
theorem test_set_wydes :
    ran [0, 0xFFFFFFFFFFFFFFFF] 0xE0010123 = some (0x123000000000000, 0, 0x104) ∧
    ran [0, 0xFFFFFFFFFFFFFFFF] 0xE1014567 = some (0x456700000000, 0, 0x104) ∧
    ran [] 0xE20189AB = some (0x89AB0000, 0, 0x104) ∧
    ran [0, 0xFFFFFFFFFFFFFFFF] 0xE301CDEF = some (0xCDEF, 0, 0x104) := by decide +kernel

/-- Rows 42.5, 42.6, 42.7, 42.8 (R304, R305, R306, R307). -/
theorem test_inc_wydes :
    ran [0, 0xFFFF000000000000] 0xE401FFFF = some (0xFFFE000000000000, 0, 0x104) ∧
    ran [0, 0xFFFF00000000] 0xE5010001 = some (0x1000000000000, 0, 0x104) ∧
    ran [0, 0x80000000] 0xE6018000 = some (0x100000000, 0, 0x104) ∧
    ran [0, 0xFFFF] 0xE7010001 = some (0x10000, 0, 0x104) := by decide +kernel

/-- Rows 42.10, 42.11, 42.12, 42.13 (R308, R309, R310, R311). -/
theorem test_or_wydes :
    ran [0, 1] 0xE8018000 = some (0x8000000000000001, 0, 0x104) ∧
    ran [0, 0] 0xE90100FF = some (0xFF00000000, 0, 0x104) ∧
    ran [0, 0xF0F0000] 0xEA01F0F0 = some (0xFFFF0000, 0, 0x104) ∧
    ran [0, 0x10] 0xEB010001 = some (0x11, 0, 0x104) := by decide +kernel

/-- Rows 42.14, 42.15, 42.16, 42.17 (R312, R313, R314, R315). -/
theorem test_andn_wydes :
    ran [0, 0xFFFFFFFFFFFFFFFF] 0xEC01FFFF = some (0xFFFFFFFFFFFF, 0, 0x104) ∧
    ran [0, 0xFFFFFFFFFFFFFFFF] 0xED0100FF = some (0xFFFFFF00FFFFFFFF, 0, 0x104) ∧
    ran [0, 0xFFFFFFFFFFFFFFFF] 0xEE01FFFF = some (0xFFFFFFFF0000FFFF, 0, 0x104) ∧
    ran [0, 0xFF] 0xEF01000F = some (0xF0, 0, 0x104) := by decide +kernel

/-- Rows 43.1, 43.2 (R321). -/
theorem test_ldbi :
    ran [0, 0, 0x2000000000000000] 0x81010200 Specials.reset octaMemory = some (1, 0, 0x104) ∧
    ran [0, 0, 0x2000000000000000] 0x81010207 Specials.reset octaMemory = some (0xFFFFFFFFFFFFFFEF, 0, 0x104) := by decide +kernel

/-- Row 43.3 (R322). -/
theorem test_ldbui :
    ran [0, 0, 0x2000000000000000] 0x83010207 Specials.reset octaMemory = some (0xEF, 0, 0x104) := by decide +kernel

/-- Rows 43.4, 43.5 (R323). -/
theorem test_ldwi :
    ran [0, 0, 0x2000000000000000] 0x85010201 Specials.reset octaMemory = some (0x123, 0, 0x104) ∧
    ran [0, 0, 0x2000000000000000] 0x85010206 Specials.reset octaMemory = some (0xFFFFFFFFFFFFCDEF, 0, 0x104) := by decide +kernel

/-- Row 43.6 (R324). -/
theorem test_ldwui :
    ran [0, 0, 0x2000000000000000] 0x87010206 Specials.reset octaMemory = some (0xCDEF, 0, 0x104) := by decide +kernel

/-- Row 43.7 (R325). -/
theorem test_ldti :
    ran [0, 0, 0x2000000000000000] 0x89010205 Specials.reset octaMemory = some (0xFFFFFFFF89ABCDEF, 0, 0x104) := by decide +kernel

/-- Row 43.8 (R326). -/
theorem test_ldtui :
    ran [0, 0, 0x2000000000000000] 0x8B010204 Specials.reset octaMemory = some (0x89ABCDEF, 0, 0x104) := by decide +kernel

/-- Rows 43.9, 43.13 (R327). -/
theorem test_ldoi :
    ran [0, 0, 0x2000000000000000] 0x8D010203 Specials.reset octaMemory = some (0x123456789ABCDEF, 0, 0x104) ∧
    ran [0, 0, 0xA000000000000000] 0x8D010200 Specials.reset octaMemory = some (0x123456789ABCDEF, 0, 0x104) := by decide +kernel

/-- Rows 43.10, 43.11 (R328, R332). -/
theorem test_ldoui_ldunci :
    ran [0, 0, 0x2000000000000000] 0x8F010200 Specials.reset octaMemory = some (0x123456789ABCDEF, 0, 0x104) ∧
    ran [0, 0, 0x2000000000000000] 0x97010200 Specials.reset octaMemory = some (0x123456789ABCDEF, 0, 0x104) := by decide +kernel

/-- Row 43.12 (R330). -/
theorem test_ldhti :
    ran [0, 0, 0x2000000000000000] 0x93010204 Specials.reset octaMemory = some (0x89ABCDEF00000000, 0, 0x104) := by decide +kernel

/-- Row 43.35 (R327). -/
theorem test_ldo_unwritten :
    ran [0, 0, 0x123456789ABCDEF0, 0x1000] 0x8C010203 = some (0, 0, 0x104) := by decide +kernel

/-- Rows 43.14, 43.15 (R329). -/
theorem test_ldsfi :
    ran [0, 0, 0x2000000000000000] 0x91010200 Specials.reset (Memory.store [] 4 0x2000000000000000 0x3DCCCCCD) = some (0x3FB99999A0000000, 0, 0x104) ∧
    ran [0, 0, 0x2000000000000000] 0x91010200 Specials.reset (Memory.store [] 4 0x2000000000000000 1) = some (0x36A0000000000000, 0, 0x104) := by decide +kernel

/-- Rows 43.17, 43.18 (R333). -/
theorem test_stbi :
    stored [0, 0xFF, 0x2000000000000000] 0xA1010203 = some (0xFF00000000, 0x40, 0x104) ∧
    stored [0, 0xFFFFFFFFFFFFFFFF, 0x2000000000000000] 0xA1010203 = some (0xFF00000000, 0, 0x104) := by decide +kernel

/-- Row 43.19 (R334). -/
theorem test_stbui :
    stored [0, 0x1FF, 0x2000000000000000] 0xA3010203 = some (0xFF00000000, 0, 0x104) := by decide +kernel

/-- Row 43.20 (R335). -/
theorem test_stwi :
    stored [0, 0x8000, 0x2000000000000000] 0xA5010203 = some (0x800000000000, 0x40, 0x104) := by decide +kernel

/-- Row 43.21 (R336). -/
theorem test_stwui :
    stored [0, 0x12345, 0x2000000000000000] 0xA7010200 = some (0x2345000000000000, 0, 0x104) := by decide +kernel

/-- Rows 43.22, 43.23 (R337). -/
theorem test_stti :
    stored [0, 0xFFFFFFFFFFFFFFFF, 0x2000000000000000] 0xA9010204 = some (0xFFFFFFFF, 0, 0x104) ∧
    stored [0, 0x80000000, 0x2000000000000000] 0xA9010204 = some (0x80000000, 0x40, 0x104) := by decide +kernel

/-- Row 43.24 (R338). -/
theorem test_sttui :
    stored [0, 0x123456789, 0x2000000000000000] 0xAB010200 = some (0x2345678900000000, 0, 0x104) := by decide +kernel

/-- Row 43.25 (R339). -/
theorem test_stoi :
    stored [0, 0x123456789ABCDEF, 0x2000000000000000] 0xAD010205 = some (0x123456789ABCDEF, 0, 0x104) := by decide +kernel

/-- Rows 43.26, 43.27 (R340, R344). -/
theorem test_stoui_stunci :
    stored [0, 7, 0x2000000000000000] 0xAF010200 = some (7, 0, 0x104) ∧
    stored [0, 7, 0x2000000000000000] 0xB7010200 = some (7, 0, 0x104) := by decide +kernel

/-- Row 43.28 (R342). -/
theorem test_sthti :
    stored [0, 0x89ABCDEF01234567, 0x2000000000000000] 0xB3010200 = some (0x89ABCDEF00000000, 0, 0x104) := by decide +kernel

/-- Row 43.29 (R343). -/
theorem test_stcoi :
    stored [0, 0, 0x2000000000000000] 0xB5050200 = some (5, 0, 0x104) := by decide +kernel

/-- Rows 43.30, 43.32 (R341). -/
theorem test_stsfi :
    stored [0, 0x3FB999999999999A, 0x2000000000000000] 0xB1010200 = some (0x3DCCCCCD00000000, 1, 0x104) ∧
    stored [0, 0x47F0000000000000, 0x2000000000000000] 0xB1010200 = some (0x7F80000000000000, 9, 0x104) := by decide +kernel

/-- Rows 44.1, 44.2 (R361). -/
theorem test_csn :
    ran [0, 0xAAAA, 0xFFFFFFFFFFFFFFFF, 0x5555] 0x60010203 = some (0x5555, 0, 0x104) ∧
    ran [0, 0xAAAA, 1, 0x5555] 0x60010203 = some (0xAAAA, 0, 0x104) := by decide +kernel

/-- Rows 44.3, 44.4 (R362). -/
theorem test_csz :
    ran [0, 0xAAAA, 0, 0x5555] 0x62010203 = some (0x5555, 0, 0x104) ∧
    ran [0, 0xAAAA, 5, 0x5555] 0x62010203 = some (0xAAAA, 0, 0x104) := by decide +kernel

/-- Rows 44.5, 44.6 (R363). -/
theorem test_csp :
    ran [0, 0xAAAA, 5, 0x5555] 0x64010203 = some (0x5555, 0, 0x104) ∧
    ran [0, 0xAAAA, 0, 0x5555] 0x64010203 = some (0xAAAA, 0, 0x104) := by decide +kernel

/-- Rows 44.7, 44.8 (R364). -/
theorem test_csod :
    ran [0, 0xAAAA, 3, 0x5555] 0x66010203 = some (0x5555, 0, 0x104) ∧
    ran [0, 0xAAAA, 0xFFFFFFFFFFFFFFFE, 0x5555] 0x66010203 = some (0xAAAA, 0, 0x104) := by decide +kernel

/-- Rows 44.9, 44.10 (R365). -/
theorem test_csnn :
    ran [0, 0xAAAA, 0, 0x5555] 0x68010203 = some (0x5555, 0, 0x104) ∧
    ran [0, 0xAAAA, 0xFFFFFFFFFFFFFFFF, 0x5555] 0x68010203 = some (0xAAAA, 0, 0x104) := by decide +kernel

/-- Rows 44.11, 44.12 (R366). -/
theorem test_csnz :
    ran [0, 0xAAAA, 7, 0x5555] 0x6A010203 = some (0x5555, 0, 0x104) ∧
    ran [0, 0xAAAA, 0, 0x5555] 0x6A010203 = some (0xAAAA, 0, 0x104) := by decide +kernel

/-- Rows 44.13, 44.14 (R367). -/
theorem test_csnp :
    ran [0, 0xAAAA, 0, 0x5555] 0x6C010203 = some (0x5555, 0, 0x104) ∧
    ran [0, 0xAAAA, 1, 0x5555] 0x6C010203 = some (0xAAAA, 0, 0x104) := by decide +kernel

/-- Rows 44.15, 44.16 (R368). -/
theorem test_csev :
    ran [0, 0xAAAA, 0, 0x5555] 0x6E010203 = some (0x5555, 0, 0x104) ∧
    ran [0, 0xAAAA, 1, 0x5555] 0x6E010203 = some (0xAAAA, 0, 0x104) := by decide +kernel

/-- Rows 44.17, 44.18 (R369, R370). -/
theorem test_zsni_zszi :
    ran [0, 0xAAAA, 0xFFFFFFFFFFFFFFFF] 0x71010209 = some (9, 0, 0x104) ∧
    ran [0, 0xAAAA, 5] 0x73010209 = some (0, 0, 0x104) := by decide +kernel

/-- Rows 44.19, 44.20 (R371, R372). -/
theorem test_zspi_zsodi :
    ran [0, 0xAAAA, 5] 0x75010209 = some (9, 0, 0x104) ∧
    ran [0, 0xAAAA, 3] 0x77010209 = some (9, 0, 0x104) := by decide +kernel

/-- Rows 44.21, 44.22 (R373, R374). -/
theorem test_zsnni_zsnzi :
    ran [0, 0xAAAA, 0xFFFFFFFFFFFFFFFF] 0x79010209 = some (0, 0, 0x104) ∧
    ran [0, 0xAAAA, 7] 0x7B010209 = some (9, 0, 0x104) := by decide +kernel

/-- Rows 44.23, 44.24 (R375, R376). -/
theorem test_zsnpi_zsevi :
    ran [0, 0xAAAA, 0] 0x7D010209 = some (9, 0, 0x104) ∧
    ran [0, 0xAAAA, 1] 0x7F010209 = some (0, 0, 0x104) := by decide +kernel

/-- Rows 45.1, 45.2 (R382). -/
theorem test_bz :
    seen (fun t => (t.sr.rA, t.pc)) (step (started [0, 0] 0x42010002)) = some (0, 0x108) ∧
    seen (fun t => (t.sr.rA, t.pc)) (step (started [0, 1] 0x42010002)) = some (0, 0x104) := by decide +kernel

/-- Rows 45.3, 45.4 (R381, R386). -/
theorem test_bnb_bnzb :
    seen (fun t => (t.sr.rA, t.pc)) (step (started [0, 0xFFFFFFFFFFFFFFFF] 0x4101FFFE)) = some (0, 0xF8) ∧
    seen (fun t => (t.sr.rA, t.pc)) (step (started [0, 1] 0x4B010000)) = some (0, 0xFFFFFFFFFFFC0100) := by decide +kernel

/-- Rows 45.5, 45.6 (R391, R384). -/
theorem test_pbp_bod :
    seen (fun t => (t.sr.rA, t.pc)) (step (started [0, 5] 0x54010001)) = some (0, 0x104) ∧
    seen (fun t => (t.sr.rA, t.pc)) (step (started [0, 3] 0x4601FFFF)) = some (0, 0x400FC) := by decide +kernel

/-- Rows 45.7, 45.9 (R397). -/
theorem test_jmp :
    seen (fun t => (t.sr.rA, t.pc)) (step (started [] 0xF0000001)) = some (0, 0x104) ∧
    seen (fun t => (t.sr.rA, t.pc)) (step (started [] 0xF0000000)) = some (0, 0x100) := by decide +kernel

/-- Row 45.8 (R397). -/
theorem test_jmpb :
    seen (fun t => (t.sr.rA, t.pc)) (step (started [] 0xF1FFFFFF)) = some (0, 0xFC) := by decide +kernel

/-- Rows 45.10, 45.11 (R398). -/
theorem test_geta :
    ran [] 0xF4010004 = some (0x110, 0, 0x104) ∧
    ran [] 0xF501FFFF = some (0xFC, 0, 0x104) := by decide +kernel

/-- Row 45.12 (R399). -/
theorem test_go :
    ran [0, 0, 0x200, 7] 0x9E010203 = some (0x104, 0, 0x204) := by decide +kernel

/-- Row 45.13 (R399). -/
theorem test_goi :
    ran [0, 0x300] 0x9F010100 = some (0x104, 0, 0x300) := by decide +kernel

/-- Rows 46.2, 46.7 (R427, R422). -/
theorem test_fadd :
    ran [0, 0, 0x3FB999999999999A, 0x3FC999999999999A] 0x04010203 = some (0x3FD3333333333334, 1, 0x104) ∧
    ran [0, 0, 0x3FF0000000000000, 0xBFF0000000000000] 0x04010203 { Specials.reset with rA := 0x30000 } = some (0x8000000000000000, 0x30000, 0x104) := by decide +kernel

/-- Rows 46.4, 46.9 (R422, R424). -/
theorem test_fadd_special :
    ran [0, 0, 0x7FEFFFFFFFFFFFFF, 0x7FEFFFFFFFFFFFFF] 0x04010203 { Specials.reset with rA := 0x10000 } = some (0x7FEFFFFFFFFFFFFF, 0x10009, 0x104) ∧
    ran [0, 0, 0x7FF8000000000005, 0xFFF8000000000007] 0x04010203 = some (0xFFF8000000000007, 0, 0x104) := by decide +kernel

/-- Rows 46.10, 46.11 (R428). -/
theorem test_fsub :
    ran [0, 0, 0x3FF0000000000000, 0x3FF0000000000000] 0x06010203 = some (0, 0, 0x104) ∧
    ran [0, 0, 0x3FF0000000000000, 0xFFF8000000000000] 0x06010203 = some (0xFFF8000000000000, 0, 0x104) := by decide +kernel

/-- Rows 46.13, 46.15 (R429, R423). -/
theorem test_fmul :
    ran [0, 0, 0, 0x7FF0000000000000] 0x10010203 = some (0x7FF8000000000000, 0x10, 0x104) ∧
    ran [0, 0, 0x10000000000000, 0x3FE0000000000001] 0x10010203 = some (0x8000000000000, 5, 0x104) := by decide +kernel

/-- Rows 46.18, 46.21 (R430). -/
theorem test_fdiv :
    ran [0, 0, 0x3FF0000000000000, 0x8000000000000000] 0x14010203 = some (0xFFF0000000000000, 2, 0x104) ∧
    ran [0, 0, 0x3FF0000000000000, 0x4008000000000000] 0x14010203 { Specials.reset with rA := 0x20000 } = some (0x3FD5555555555556, 0x20001, 0x104) := by decide +kernel

/-- Rows 46.24, 46.25 (R431). -/
theorem test_frem :
    ran [0, 0, 0x401C000000000000, 0x4000000000000000] 0x16010203 = some (0xBFF0000000000000, 0, 0x104) ∧
    ran [0, 0, 0xC010000000000000, 0x4000000000000000] 0x16010203 = some (0x8000000000000000, 0, 0x104) := by decide +kernel

/-- Rows 46.27, 46.29 (R432). -/
theorem test_fsqrt :
    ran [0, 0, 0, 0x4000000000000000] 0x15010003 = some (0x3FF6A09E667F3BCD, 1, 0x104) ∧
    ran [0, 0, 0, 0xBFF0000000000000] 0x15010003 = some (0x7FF8000000000000, 0x10, 0x104) := by decide +kernel

/-- Row 46.31 (R432). -/
theorem test_fsqrt_field :
    stopped [0, 0, 0, 0x4000000000000000] 0x15010503 = some (0x10, 0x100, .faulted .illegalInstruction) := by decide +kernel

/-- Rows 46.32, 46.35 (R433). -/
theorem test_fint :
    ran [0, 0, 0, 0x4004000000000000] 0x17010403 = some (0x4000000000000000, 1, 0x104) ∧
    ran [0, 0, 0, 0xBFD3333333333333] 0x17010403 = some (0x8000000000000000, 1, 0x104) := by decide +kernel

/-- Rows 46.37, 46.38 (R434). -/
theorem test_fix :
    ran [0, 0, 0, 0xC004000000000000] 0x05010303 = some (0xFFFFFFFFFFFFFFFD, 1, 0x104) ∧
    ran [0, 0, 0, 0x43E158E460913D00] 0x05010003 = some (0x8AC7230489E80000, 0x20, 0x104) := by decide +kernel

/-- Rows 46.40, 46.41 (R434). -/
theorem test_fix_special :
    ran [0, 0, 0, 0x7FF0000000000001] 0x05010003 = some (0x7FF8000000000001, 0x10, 0x104) ∧
    ran [0, 0, 0, 0x7FF0000000000000] 0x05010003 = some (0x7FF0000000000000, 0x10, 0x104) := by decide +kernel

/-- Rows 46.42, 46.43 (R435). -/
theorem test_fixu :
    ran [0, 0, 0, 0x43E158E460913D00] 0x07010003 = some (0x8AC7230489E80000, 0, 0x104) ∧
    ran [0, 0, 0, 0xBFF0000000000000] 0x07010003 = some (0xFFFFFFFFFFFFFFFF, 0, 0x104) := by decide +kernel

/-- Rows 46.46, 46.47 (R436). -/
theorem test_flot :
    ran [0, 0, 0, 0x20000000000001] 0x08010003 = some (0x4340000000000000, 1, 0x104) ∧
    ran [0, 0, 0, 0x20000000000001] 0x08010203 = some (0x4340000000000001, 1, 0x104) := by decide +kernel

/-- Row 46.45 (R436). -/
theorem test_floti :
    ran [] 0x09010003 = some (0x4008000000000000, 0, 0x104) := by decide +kernel

/-- Row 46.48 (R437). -/
theorem test_flotu :
    ran [0, 0, 0, 0xFFFFFFFFFFFFFFFF] 0x0A010003 = some (0x43F0000000000000, 1, 0x104) := by decide +kernel

/-- Row 46.49 (R437). -/
theorem test_flotui :
    ran [] 0x0B010003 = some (0x4008000000000000, 0, 0x104) := by decide +kernel

/-- Rows 46.50, 46.51 (R438). -/
theorem test_sflot :
    ran [0, 0, 0, 0x1000001] 0x0C010003 = some (0x4170000000000000, 1, 0x104) ∧
    ran [0, 0, 0, 0xFFFFFFFFFFFFFFFD] 0x0C010003 = some (0xC008000000000000, 0, 0x104) := by decide +kernel

/-- Row 46.52 (R439). -/
theorem test_sflotu :
    ran [0, 0, 0, 0xFFFFFFFFFFFFFFFF] 0x0E010003 = some (0x43F0000000000000, 1, 0x104) := by decide +kernel

/-- Row 46.53 (R439). -/
theorem test_sflotui :
    ran [] 0x0F010003 = some (0x4008000000000000, 0, 0x104) := by decide +kernel

/-- Rows 46.55, 46.57 (R441). -/
theorem test_fcmp :
    ran [0, 0, 0, 0x8000000000000000] 0x01010203 = some (0, 0, 0x104) ∧
    ran [0, 0, 0x7FF8000000000000, 0x3FF0000000000000] 0x01010203 = some (0, 0x10, 0x104) := by decide +kernel

/-- Rows 46.59, 46.60 (R442). -/
theorem test_fun :
    ran [0, 0, 0x7FF0000000000001, 0x3FF0000000000000] 0x02010203 = some (1, 0, 0x104) ∧
    ran [0, 0, 0x7FF0000000000000, 0x3FF0000000000000] 0x02010203 = some (0, 0, 0x104) := by decide +kernel

/-- Rows 46.61, 46.62 (R443). -/
theorem test_feql :
    ran [0, 0, 0x3FF0000000000000, 0x3FF0000000000000] 0x03010203 = some (1, 0, 0x104) ∧
    ran [0, 0, 0x7FF8000000000000, 0x7FF8000000000000] 0x03010203 = some (0, 0, 0x104) := by decide +kernel

/-- Rows 46.63, 46.64 (R445). -/
theorem test_fcmpe :
    ran [0, 0, 0x3FF0000000000000, 0x3FF0020C49BA5E35] 0x11010203 { Specials.reset with rE := 0x3F50624DD2F1A9FC } = some (0, 0, 0x104) ∧
    ran [0, 0, 0x3FF0000000000000, 0x3FF028F5C28F5C29] 0x11010203 { Specials.reset with rE := 0x3F50624DD2F1A9FC } = some (0xFFFFFFFFFFFFFFFF, 0, 0x104) := by decide +kernel

/-- Rows 46.72, 46.73 (R444). -/
theorem test_fcmpe_infinity :
    ran [0, 0, 0x7FF0000000000000, 0x7FEFFFFFFFFFFFFF] 0x11010203 { Specials.reset with rE := 0x3FF8000000000000 } = some (0, 0, 0x104) ∧
    ran [0, 0, 0x7FF0000000000000, 0x7FEFFFFFFFFFFFFF] 0x11010203 { Specials.reset with rE := 0x3FE0000000000000 } = some (1, 0, 0x104) := by decide +kernel

/-- Rows 46.67, 46.68 (R446). -/
theorem test_fune :
    ran [0, 0, 0x3FF0000000000000, 0x3FF0000000000000] 0x12010203 { Specials.reset with rE := 0x8000000000000000 } = some (1, 0, 0x104) ∧
    ran [0, 0, 0x3FF0000000000000, 0x3FF0000000000000] 0x12010203 = some (0, 0, 0x104) := by decide +kernel

/-- Rows 46.69, 46.70 (R447). -/
theorem test_feqle :
    ran [0, 0, 0x3FF0000000000000, 0x3FF0020C49BA5E35] 0x13010203 { Specials.reset with rE := 0x3F50624DD2F1A9FC } = some (1, 0, 0x104) ∧
    ran [0, 0, 0, 0x1A56E1FC2F8F359] 0x13010203 { Specials.reset with rE := 0x3F50624DD2F1A9FC } = some (0, 0, 0x104) := by decide +kernel

/-- Rows 47.1, 47.4 (R476). -/
theorem test_get :
    ran [] 0xFE010015 { Specials.reset with rA := 0x20041 } = some (0x20041, 0x20041, 0x104) ∧
    ran [] 0xFE01000A = some (0x6000000000000000, 0, 0x104) := by decide +kernel

/-- Row 47.5 (R476). -/
theorem test_get_number :
    stopped [] 0xFE010020 = some (0x10, 0x100, .faulted .illegalInstruction) := by decide +kernel

/-- Rows 47.9, 47.10 (R477). -/
theorem test_put_illegal :
    stopped [] 0xF7090000 = some (0x10, 0x100, .faulted .illegalInstruction) ∧
    stopped [] 0xF7080000 = some (0x10, 0x100, .faulted .privileged) := by decide +kernel

/-- Rows 47.16, 47.17 (R490, R493). -/
theorem test_trap :
    stopped [] 0x00000003 = some (0, 0x104, .halted 3) ∧
    stopped [] 0x00000100 = some (0, 0x100, .faulted .unhandledTrap) := by decide +kernel

/-- Row 47.18 (R492). -/
theorem test_trap_handle :
    stopped [] 0x00000703 = some (0, 0x100, .faulted .badHandle) := by decide +kernel

/-- Rows 47.20, 47.21 (R495). -/
theorem test_resume :
    stopped [] 0xF9000000 = some (0x10, 0x100, .faulted .unimplemented) ∧
    seen (fun t => (t.sr.rA, t.pc)) (step (started [] 0xF9000000 { Specials.reset with rX := 0x80000000FF010203, rW := 0x10B })) = some (0, 0x108) := by decide +kernel

/-- Row 47.22 (R495). -/
theorem test_resume_kernel :
    stopped [] 0xF9000001 = some (0x10, 0x100, .faulted .privileged) := by decide +kernel

/-- Rows 47.23, 47.24 (R474, R486). -/
theorem test_swym_sync :
    seen (fun t => (t.sr.rA, t.pc)) (step (started [] 0xFD010203)) = some (0, 0x104) ∧
    seen (fun t => (t.sr.rA, t.pc)) (step (started [] 0xFC000005)) = some (0, 0x104) := by decide +kernel

/-- Row 47.25 (R471). -/
theorem test_preldi :
    seen (fun t => (t.sr.rA, t.pc)) (step (started [0, 0, 0x2000000000000000] 0x9BFF0200)) = some (0, 0x104) := by decide +kernel

/-! ### Vectors whose result is not one register -/

/-- Rows 43.33, 43.34 (R331): the swap, and the load of rP. -/
theorem test_cswapi :
    seen (fun t => (t.reg 1, t.mem.load 8 0x2000000000000000, t.sr.rP)) (step (started [0, 0x63, 0x2000000000000000] 0x95010200
      { Specials.reset with rP := 0x123456789ABCDEF } octaMemory)) = some (1, 0x63, 0x123456789ABCDEF) ∧
    seen (fun t => (t.reg 1, t.mem.load 8 0x2000000000000000, t.sr.rP)) (step (started [0, 0x63, 0x2000000000000000] 0x95010200
      { Specials.reset with rP := 5 } octaMemory)) = some (0, 0x123456789ABCDEF, 0x123456789ABCDEF) := by decide

/-- Row 44.25 (R360): a false condition makes a marginal `$X` local. -/
theorem test_csz_marginal : seen (fun t => (t.reg 5, t.L)) (step (started [0, 0, 1, 0x5555] 0x62050203)) = some (0, 6) := by
  decide

/-- Rows 45.14, 45.16 (R400, R401). -/
theorem test_pushj :
    seen (fun t => (t.frame, t.stack, t.sr.rJ, t.pc)) (step (started [0xA, 0xB, 0xC, 0xD, 0xE] 0xF2020010)) =
      some ([0xD, 0xE], [0xA, 0xB, 2], 0x104, 0x140) ∧
    seen (fun t => (t.frame, t.stack, t.pc)) (step (started [0xA, 0xB] 0xF2040001)) =
      some ([], [0xA, 0xB, 0, 0, 4], 0x104) := by decide

/-- Row 45.15 (R400): a global `$X` hides every local register. -/
theorem test_pushj_global : seen (fun t => (t.frame, t.stack, t.pc)) (step (started [0xA, 0xB] 0xF2FF0001)) =
    some ([], [0xA, 0xB, 2], 0x104) := by decide

/-- Row 45.17 (R402). -/
theorem test_pushgoi : seen (fun t => (t.frame, t.stack, t.pc)) (step (started [0xA, 0xB, 0xC, 0xD, 0x300] 0xBF020400)) =
    some ([0xD, 0x300], [0xA, 0xB, 2], 0x300) := by decide

/-- The callee's state of rows 45.19 to 45.23. -/
def callee (frame : List Word) : State :=
  { sample frame { Specials.reset with rJ := 0x104 } with stack := [0xA, 0xB, 2] }

/-- Rows 45.19, 45.22 (R403). -/
theorem test_pop :
    seen (fun t => (t.frame, t.stack, t.pc)) (exec (.pop 3 0) (callee [0x12C, 0x12D, 0x12E])) =
      some ([0xA, 0xB, 0x12E, 0x12C, 0x12D], [], 0x104) ∧
    seen (fun t => (t.frame, t.L)) (exec (.pop 5 0) (callee [0x12C, 0x12D])) = some ([0xA, 0xB, 0, 0x12C, 0x12D], 5) := by
  decide

/-- Rows 45.18, 45.23 (R403). -/
theorem test_pop_edges :
    stopped [1] 0xF8000000 = some (0, 0x100, .faulted .stackUnderflow) ∧
    seen (fun t => (t.frame, t.pc)) (exec (.pop 1 2) (callee [0x12C])) = some ([0xA, 0xB, 0x12C], 0x10C) := by decide

/-- Rows 47.6, 47.7 (R477, R478). -/
theorem test_put :
    seen (fun t => t.sr.rM) (step (started [0, 0, 0xFF00] 0xF6050002)) = some 0xFF00 ∧
    seen (fun t => t.sr.rA) (step (started [] 0xF7150000 { Specials.reset with rA := 0x300C1 })) = some 0 := by decide

/-- Rows 47.8, 47.12 (R478, R479). -/
theorem test_put_values :
    stopped [0, 0, 0x40000] 0xF6150002 = some (0x10, 0x100, .faulted .illegalInstruction) ∧
    stopped [1, 2, 3] 0xF7130002 = some (0x10, 0x100, .faulted .illegalInstruction) := by decide

/-- Rows 47.11, 47.13 (R479, R480). -/
theorem test_puti_thresholds :
    seen (fun t => (t.G, t.reg 250, t.reg 0)) (step (started [1, 2, 3] 0xF71300FA)) = some (250, 0, 1) ∧
    seen (fun t => (t.L, t.reg 1, t.reg 2)) (step (started [1, 2, 3, 4, 5] 0xF7140002)) = some (2, 2, 0) := by decide

/-- Row 47.15 (R481). -/
theorem test_save :
    seen (fun t => (t.reg 0, t.mem.load 8 0x2000000000000000, t.mem.load 8 0x2000000000000070))
      (step (started [0x2000000000000000] 0xFA000000)) =
      some (0x2000000000000070, 0x2000000000000000, 0xFF01000000000000) := by decide +kernel

/-- The example of R482, after that of R481: `$0` and rM come back. -/
theorem test_unsave :
    seen (fun t => (t.reg 0, t.L, t.G, t.sr.rM)) (execAll [.save 0 0 0, .puti 5 0 9, .unsave 0 0 0]
      (sample [0x2000000000000000] { Specials.reset with rM := 5 })) = some (0x2000000000000000, 1, 255, 5) := by
  decide +kernel

/-- A string "Hi" at `#2000000000000000`, which `$255` addresses. -/
def greeting : State :=
  { sample [] Specials.reset [(0x2000000000000000, 72), (0x2000000000000001, 105)] with glob := [0x2000000000000000] }

/-- R492: the bytes before the NUL go to the stream that Z names, and a draw is taken. -/
theorem test_fputs :
    seen (fun t => (t.out.stdOut, t.out.stdErr, t.draws)) (exec (.trap 0 7 1) greeting) = some ([72, 105], [], 1) ∧
    seen (fun t => (t.out.stdOut, t.out.stdErr, t.draws)) (exec (.trap 0 7 2) greeting) = some ([], [72, 105], 1) := by
  decide

/-- Row 47.19 (R494). -/
theorem test_trip :
    seen (fun t => (t.pc, t.sr.rX, t.sr.rY, t.sr.rZ, t.sr.rW, t.reg 255))
      (step (started [0, 0, 0x14, 0x1E] 0xFF010203 { Specials.reset with rJ := 0x500 })) =
      some (0, 0x80000000FF010203, 0x14, 0x1E, 0x104, 0x500) := by decide

/-- Row 47.26 (R488): `LDVTS` leaves `$X` alone. -/
theorem test_ldvtsi : ran [0, 0x4D, 0x2000000000000000] 0x99010200 = some (0x4D, 0, 0x104) := by decide

/-- 10_state.md R33, the rows of 95_test_vectors.md on `RING_LIMIT = some 3`: the push fits, the next local does not. -/
theorem test_ringLimit :
    seen (fun t => (t.stack, t.L, t.status)) (exec (.pushj 2 16)
      { sample [0xA, 0xB] with params := { ringLimit := some 3 } }) = some ([0xA, 0xB, 2], 0, .running) ∧
    seen (fun t => (t.L, t.status)) (exec (.setl 0 1)
      { sample [] with params := { ringLimit := some 3 }, stack := [0xA, 0xB, 2] }) =
      some (0, .faulted .registerStackOverflow) := by decide

/-- 30_encoding.md R133: an opcode outside `IMPLEMENTED` faults before any other check. -/
theorem test_unimplemented :
    seen (fun t => (t.status, t.sr.rA, t.pc)) (step { started [] 0xF9000001 with params := { notImplemented := [0xF9] } }) =
      some (.faulted .unimplemented, 0x10, 0x100) := by decide

/-- 60_exceptions.md R508: no step from a terminal status. -/
theorem test_terminal :
    seen (fun t => t.pc) (step (State.reset.setStatus (.halted 3))) = none ∧
    seen (fun t => t.pc) (step (State.reset.setStatus (.faulted .badHandle))) = none := by decide

/-- 60_exceptions.md R509. -/
theorem test_exitCode : exitCode (.halted 7) = some 7 ∧ exitCode (.faulted .badHandle) = some 1 ∧ exitCode .running = none := by
  decide

/-- 70_reset_and_hazards.md R541, R543, R544, R551: a later segment wins, addresses are translated, `GREG` values go down
from `$255`; an entry that is no multiple of 4 and more than 224 `GREG` registers are refused. -/
theorem test_load :
    (load {} { segments := [(0x100, [1, 2]), (0x8000000000000101, [3])], entry := 0x104, gregs := [7, 8] }).toOption.map
      (fun s => (s.mem, s.pc, s.G, s.reg 255, s.reg 254)) = some ([(0x100, 1), (0x101, 3)], 0x104, 254, 7, 8) ∧
    (load {} { entry := 0x102 }).toOption.isNone = true ∧
    (load {} { gregs := List.replicate 225 0 }).toOption.isNone = true := by decide +kernel

/-- 30_encoding.md R139, R142, R145: relative operands choose the opcode by their sign, `SETI` takes four tetras. -/
theorem test_assembly :
    relative16 (.bz 1) (.bzb 1) 0x100 0xF8 = some (.bzb 1 0xFFFE) ∧ relative24 0x100 0x140 = some (.jmp 0x10) ∧
    relative16 (.bz 1) (.bzb 1) 0x100 0x102 = none ∧
    pseudoSeti 1 0x0123456789ABCDEF = [.setl 1 0xCDEF, .incml 1 0x89AB, .incmh 1 0x4567, .inch 1 0x0123] ∧
    basePlusOffset (.ldoi 1) 254 0x2000000000000000 0x2000000000000010 = some (.ldoi 1 254 0x10) ∧
    chooseForm (.add 1 2) (.addi 1 2) (.immediate 256) = none := by decide

/-! ### Witnesses

For every statement with hypotheses, a state and operands that meet them; where a statement has several clauses, one
witness for each, at a boundary value where the clause has a range. -/

/-- The invariant of states that differ from reset in their registers, stack and parameters only. -/
theorem inv_of (s : State) (hm : s.mem = []) (hc : CallStack s.stack)
    (h : s.pc.toNat % 4 = 0 ∧ s.L ≤ s.G ∧ (32 ≤ s.G ∧ s.G ≤ 255) ∧ s.sr.rA.toNat < 2 ^ 18 ∧
      s.ringAllows s.stack.length s.L = true) : s.Inv :=
  ⟨by rw [hm]; exact reset_memory_wf, h.1, h.2.1, h.2.2.1, h.2.2.2.1, hc, h.2.2.2.2⟩

/-- A machine whose `RING_LIMIT` leaves room for `$0` to `$3` and no further. -/
def tight : State := { sample [7, 9] with params := { ringLimit := some 4 } }

theorem witness_roomFor : tight.roomFor 3 = true ∧ tight.roomFor 4 = false ∧ tight.roomFor 1 = true ∧
    tight.roomFor 255 = true ∧ State.reset.roomFor 254 = true := by decide

theorem witness_EncodeOfDecode :
    [0x97#8, 0x9E#8, 0xB7#8, 0xBE#8, 0xFB#8, 0xFE#8].all (fun op => decide (wordOp (op ++ 0x010203#24) ∉
      [0x98#8, 0x99#8, 0x9A#8, 0x9B#8, 0x9C#8, 0x9D#8, 0xB8#8, 0xB9#8, 0xBA#8, 0xBB#8, 0xBC#8, 0xBD#8, 0xFC#8, 0xFD#8])) =
      true := by decide

theorem witness_StepRunsDecoded :
    State.reset.status = .running ∧ wordOp State.reset.fetch ∉ State.reset.params.notImplemented ∧
    ({ State.reset with params := { notImplemented := [0] } } : State).status = .running ∧
    wordOp ({ State.reset with params := { notImplemented := [0] } } : State).fetch ∈ [0#8] := by decide

theorem witness_StepsExactlyWhenRunning :
    (∃ t, step State.reset = .next t) ∧ (State.reset.setStatus (.halted 0)).status ≠ .running := ⟨⟨_, rfl⟩, by decide⟩

theorem witness_PlacedWordIsFetched : (sample [] Specials.reset [(0xFF, 1), (0x103, 2), (0x104, 3)]).mem.wf := by decide

/-- One `GREG` and two segments that overlap: the first byte of the earlier one is in no later segment and is no later
byte of its own, an address in no segment, and the byte where the later one wins; the greatest number of `GREG`
registers. -/
theorem witness_LoadedStateIsInitial :
    ((∀ j, j < 2 → 0 < j → byteAddress (0x100, [1, 2]) j ≠ byteAddress (0x100, [1, 2]) 0) ∧
      (∀ j, j < 1 → byteAddress (0x101, [3]) j ≠ byteAddress (0x100, [1, 2]) 0) ∧
      byteAddress (0x101, [3]) 0 = byteAddress (0x100, [1, 2]) 1) ∧
    (load {} { segments := [(0x100, [1, 2]), (0x101, [3])], gregs := [7] }).toOption.map
      (fun s => (s.mem.read 0x100, s.mem.read 0x101, s.reg 255)) = some (1, 3, 7) ∧
    (load {} { gregs := List.replicate 224 5 }).toOption.map (fun s => (s.G, s.reg 32)) = some (32, 5) := by
  decide +kernel

theorem reset_inv : State.reset.Inv := inv_of _ rfl .empty (by decide)

/-- A caller of two registers below the hole. -/
theorem callStack_two : CallStack [0xA, 0xB, 2] := .call [] [0xA, 0xB] .empty (by decide)

theorem callee_inv (frame : List Word) (h : frame.length ≤ 255) : (callee frame).Inv :=
  inv_of _ rfl callStack_two ⟨by show State.reset.pc.toNat % 4 = 0; decide, h, by show 32 ≤ 255 ∧ 255 ≤ 255; decide,
    by show (0 : Word).toNat < 2 ^ 18; decide, rfl⟩

theorem witness_StepKeepsInvariant :
    (State.reset.Inv ∧ ∃ t, step State.reset = .next t) ∧
    ((callee [1]).Inv ∧ ∃ t, step (callee [1]) = .next t) :=
  ⟨⟨reset_inv, _, rfl⟩, callee_inv [1] (by decide), _, rfl⟩

/-- `$255` is global, `$1` local, `$2` and `$254` marginal. -/
theorem witness_RegisterReadClasses :
    tight.L ≤ tight.G ∧ tight.glob.length ≤ 256 ∧ tight.G ≤ (255#8).toNat ∧ (1#8).toNat < tight.L ∧
    (tight.L ≤ (2#8).toNat ∧ (2#8).toNat < tight.G) ∧ tight.L ≤ (254#8).toNat ∧ (254#8).toNat < tight.G := by decide

theorem witness_RingLimitForbidsWrite :
    destination (.setl 4 7) = some 4 ∧ wellFormed (.setl 4 7) = true ∧ tight.params.ringLimit = some 4 ∧
    tight.L ≤ (4#8).toNat ∧ (4#8).toNat < tight.G ∧ 4 < tight.stack.length + ((4#8).toNat + 1) ∧
    ¬4 < tight.stack.length + ((3#8).toNat + 1) := by decide

theorem witness_RegistersChangeOnlyByName :
    movesWindow (.add 3 0 1) = false ∧ (∃ t, exec (.add 3 0 1) tight = .next t) ∧
    movesWindow (.trip 1 2 3) = false ∧ ∃ t, exec (.trip 1 2 3) tight = .next t :=
  ⟨rfl, ⟨_, rfl⟩, rfl, _, rfl⟩

/-- Operands for the integer instructions: `$0` = 7, `$1` = -7, `$2` = -2^63, `$3` = -1, `$4` = 0, `$5` = 2^63 - 1. -/
def integers : State :=
  sample [7, 0xFFFFFFFFFFFFFFF9, 0x8000000000000000, 0xFFFFFFFFFFFFFFFF, 0, 0x7FFFFFFFFFFFFFFF]

/-- The sum fits, and does not. -/
theorem witness_SignedAddSubNeg :
    integers.roomFor 6 = true ∧ seen (fun t => (t.reg 6, t.sr.rA)) (exec (.add 6 5 4) integers) = some (0x7FFFFFFFFFFFFFFF, 0) ∧
    seen (fun t => (t.reg 6, t.sr.rA)) (exec (.addi 6 5 1) integers) = some (0x8000000000000000, 0x40) ∧
    seen (fun t => (t.reg 6, t.sr.rA)) (exec (.neg 6 0 2) integers) = some (0x8000000000000000, 0x40) := by decide

theorem witness_UnsignedAddSubNeg :
    integers.roomFor 6 = true ∧ seen (fun t => (t.reg 6, t.sr.rA)) (exec (.addui 6 3 1) integers) = some (0, 0) ∧
    seen (fun t => (t.reg 6, t.sr.rA)) (exec (.negu 6 0 0) integers) = some (0xFFFFFFFFFFFFFFF9, 0) := by decide

theorem witness_Multiplication :
    integers.roomFor 6 = true ∧ seen (fun t => (t.reg 6, t.sr.rA)) (exec (.mul 6 2 3) integers) = some (0x8000000000000000, 0x40) ∧
    seen (fun t => (t.reg 6, t.sr.rH)) (exec (.mulu 6 3 3) integers) = some (1, 0xFFFFFFFFFFFFFFFE) := by decide

/-- Division by zero, the one overflow, and divisions next to both. -/
theorem witness_SignedDivision :
    integers.roomFor 6 = true ∧ integers.reg 4 = 0 ∧
    ((integers.reg 2).toInt = -2 ^ 63 ∧ (integers.reg 3).toInt = -1) ∧
    (integers.reg 3 ≠ 0 ∧ ¬((integers.reg 5).toInt = -2 ^ 63 ∧ (integers.reg 3).toInt = -1)) ∧
    (integers.reg 0 ≠ 0 ∧ ¬((integers.reg 2).toInt = -2 ^ 63 ∧ (integers.reg 0).toInt = -1)) := by decide

/-- `$Z` at most rD, at the boundary, and just above it. -/
theorem witness_UnsignedDivision :
    let s := integers.setSr { Specials.reset with rD := 7 }
    s.roomFor 6 = true ∧ (s.reg 0).toNat ≤ s.sr.rD.toNat ∧ s.sr.rD.toNat < (zext8 8).toNat := by decide

theorem witness_IntegerComparison :
    integers.roomFor 6 = true ∧ seen (fun t => t.reg 6) (exec (.cmp 6 2 5) integers) = some 0xFFFFFFFFFFFFFFFF ∧
    seen (fun t => t.reg 6) (exec (.cmpu 6 2 5) integers) = some 1 := by decide

theorem witness_BitwiseLogic :
    integers.roomFor 6 = true ∧ seen (fun t => t.reg 6) (exec (.nand 6 0 3) integers) = some 0xFFFFFFFFFFFFFFF8 := by decide

/-- Shifts by 63, 64 and the greatest amount. -/
theorem witness_Shifts :
    integers.roomFor 6 = true ∧ seen (fun t => (t.reg 6, t.sr.rA)) (exec (.sli 6 3 63) integers) = some (0x8000000000000000, 0) ∧
    seen (fun t => (t.reg 6, t.sr.rA)) (exec (.sli 6 3 64) integers) = some (0, 0x40) ∧
    seen (fun t => t.reg 6) (exec (.sr 6 2 3) integers) = some 0xFFFFFFFFFFFFFFFF := by decide

theorem witness_SaturatingDifferences :
    integers.roomFor 6 = true ∧ seen (fun t => t.reg 6) (exec (.bdif 6 0 1) integers) = some 0 := by decide

theorem witness_MuxCountAndMatrices :
    integers.roomFor 6 = true ∧ seen (fun t => t.reg 6) (exec (.sadd 6 3 4) integers) = some 64 := by decide

theorem witness_WydeSetAndIncrement :
    integers.roomFor 3 = true ∧ seen (fun t => t.reg 3) (exec (.incl 3 1) integers) = some 0 := by decide

theorem witness_WydeOrAndNot :
    integers.roomFor 3 = true ∧ seen (fun t => t.reg 3) (exec (.andnmh 3 0x00FF) integers) = some 0xFFFFFF00FFFFFFFF := by decide

theorem witness_SetiSequence :
    tight.roomFor 3 = true ∧ seen (fun t => t.reg 3) (execAll (pseudoSeti 3 0x0123456789ABCDEF) tight) =
      some 0x0123456789ABCDEF := by decide

/-- The last octa of the address space, through an address with bit 63 set. -/
theorem witness_IntegerLoads :
    let s := sample [0xFFFFFFFFFFFFFFFF] Specials.reset [(0x7FFFFFFFFFFFFFFF, 0x81)]
    s.roomFor 1 = true ∧ seen (fun t => t.reg 1) (exec (.ldbi 1 0 0) s) = some 0xFFFFFFFFFFFFFF81 ∧
    seen (fun t => t.reg 1) (exec (.ldoi 1 0 0) s) = some 0x81 := by decide

theorem witness_LoadShortFloat :
    let s := sample [0x2000000000000000] Specials.reset [(0x2000000000000003, 1)]
    s.roomFor 1 = true ∧ seen (fun t => t.reg 1) (exec (.ldsfi 1 0 0) s) = some 0x36A0000000000000 := by decide +kernel

/-- Equal to rP, and not. -/
theorem witness_CompareAndSwap :
    let s := sample [3] { Specials.reset with rP := 0 }
    let t := sample [3] { Specials.reset with rP := 1 }
    (s.mem.wf ∧ s.roomFor 0 = true ∧ octaIn s.mem (effective 8 0) = s.sr.rP) ∧
    t.mem.wf ∧ t.roomFor 0 = true ∧ octaIn t.mem (effective 8 0) ≠ t.sr.rP := by decide

/-- The data that just fit a signed byte, and just do not. -/
theorem witness_IntegerStores :
    let s := sample [127, 128, 0xFFFFFFFFFFFFFF80, 0xFFFFFFFFFFFFFF7F] Specials.reset octaMemory
    s.mem.wf ∧ [0#8, 1, 2, 3].map (fun x => seen (fun t => t.sr.rA) (exec (.stb x 4 4) s)) =
      [some 0, some 0x40, some 0, some 0x40] := by decide

theorem witness_StoreShortFloat :
    let s := sample [0x3FB999999999999A, 0x2000000000000000] Specials.reset octaMemory
    s.mem.wf ∧ seen (fun t => (t.mem.load 4 0x2000000000000000, t.sr.rA)) (exec (.stsfi 0 1 0) s) = some (0x3DCCCCCD, 1) := by
  decide +kernel

theorem witness_StoreLoadRoundTrip :
    let s := sample [0xFFFFFFFFFFFFFF80, 0x2000000000000003, 5] Specials.reset octaMemory
    s.mem.wf ∧ seen (fun t => seen (fun u => u.reg 2) (exec (.ldbi 2 1 4) t)) (exec (.stb 0 1 4) s) ≠ none ∧
    ∃ t, exec (.stbi 0 1 0) s = .next t ∧ s.reg 1 + (0#8).setWidth 64 = 0x2000000000000003 ∧ t.roomFor 2 = true ∧
      t.reg 1 + t.reg 3 = 0x2000000000000003 ∧ seen (fun u => u.reg 2) (exec (.ldb 2 1 3) t) = some 0xFFFFFFFFFFFFFF80 :=
  ⟨by decide, by decide, _, rfl, by decide⟩

/-- The bytes stored survive an instruction between that stores beside them (R345). -/
theorem test_roundTrip_between :
    seen (fun u => u.reg 2) (execAll [.stht 0 1 3, .stti 0 1 4, .addui 1 1 0, .ldtui 2 1 0]
      (sample [0x1234567889ABCDEF, 0x2000000000000000] Specials.reset octaMemory)) = some 0x12345678 := by decide

theorem witness_ImplicitAlignment : effective 8 0xFFFFFFFFFFFFFFFF = 2 ^ 63 - 8 ∧ effective 1 0xFFFFFFFFFFFFFFFF = 2 ^ 63 - 1 := by
  decide

theorem witness_ConditionalAndZeroOrSet :
    integers.roomFor 6 = true ∧ seen (fun t => t.reg 6) (exec (.csp 6 4 0) integers) = some 0 ∧
    seen (fun t => t.reg 6) (exec (.zsnp 6 4 0) integers) = some 7 := by decide

/-- Each condition holds of one word and fails of another. -/
theorem witness_ConditionalBranches :
    let holds (v : Word) : List Bool := [decide (v.toInt < 0), decide (v = 0), decide (0 < v.toInt), decide (v.toNat % 2 = 1),
      decide (0 ≤ v.toInt), decide (v ≠ 0), decide (v.toInt ≤ 0), decide (v.toNat % 2 = 0)]
    holds 0x8000000000000000 = [true, false, false, false, false, true, true, true] ∧
    holds 0 = [false, true, false, false, true, false, true, true] ∧
    holds 1 = [false, false, true, true, true, true, false, false] := by decide

theorem witness_JumpsAndAddresses :
    tight.roomFor 3 = true ∧ seen (fun t => (t.reg 3, t.pc)) (exec (.goi 3 0 0) tight) = some (0x104, 4) := by decide

/-- A push that fits exactly, and one that does not. -/
theorem witness_PushesHideRegisters :
    tight.L ≤ tight.G ∧
    tight.ringAllows (tight.stack.length + hiddenBy tight 3 + 1) (tight.L - (hiddenBy tight 3 + 1)) = true ∧
    tight.ringAllows (tight.stack.length + hiddenBy tight 4 + 1) (tight.L - (hiddenBy tight 4 + 1)) = false ∧
    tight.ringAllows (tight.stack.length + hiddenBy tight 255 + 1) (tight.L - (hiddenBy tight 255 + 1)) = true := by decide

theorem witness_PopReturns :
    ((callee [1]).L ≤ (callee [1]).G ∧ (callee [1]).stack = [] ++ [0xA, 0xB] ++ [BitVec.ofNat 64 [0xA#64, 0xB].length]) ∧
    State.reset.stack = [] := by decide

/-- The callee of `PUSHJ $2,@+16` with three registers of its own, returning three values, and none. -/
theorem witness_CallingConvention :
    ∃ t u : State, (sample [10, 11, 12]).Inv ∧ u.Inv ∧ exec (.pushj 2 4) (sample [10, 11, 12]) = .next t ∧
      t.status = (sample [10, 11, 12]).status ∧ (sample [10, 11, 12]).status = .running ∧ u.stack = t.stack ∧
      u.sr.rJ = t.sr.rJ ∧ u.G = (sample [10, 11, 12]).G ∧ 3#8 ≠ 0 ∧ (3#8).toNat ≤ u.L + 1 ∧ (0#8).toNat ≤ u.L + 1 ∧
      (2#8).toNat < (sample [10, 11, 12]).G ∧ (2#8).toNat + (3#8).toNat ≤ (sample [10, 11, 12]).G ∧
      seen (fun v => (v.frame, v.pc)) (exec (.pop 3 0) u) = some ([10, 11, 302, 300, 301], 0x104) ∧
      seen (fun v => (v.frame, v.pc)) (exec (.pop 0 0) u) = some ([10, 11], 0x104) := by
  refine ⟨_, { sample [300, 301, 302] { Specials.reset with rJ := 0x104 } with stack := [10, 11, 2] }, ?_, ?_, rfl, ?_⟩
  · exact inv_of _ rfl .empty (by decide)
  · exact inv_of _ rfl (.call [] [10, 11] .empty (by decide)) (by decide)
  · decide

/-! The floating-point operands: `$0` = 1.0, `$1` = 2.5, `$2` a quiet NaN, `$3` a signaling NaN, `$4` = +infinity,
`$5` = -0, `$6` = the least subnormal. -/

def floats : State :=
  sample [0x3FF0000000000000, 0x4004000000000000, 0x7FF8000000000001, 0x7FF0000000000001, 0x7FF0000000000000,
    0x8000000000000000, 1]

theorem witness_FloatAddSubtract :
    floats.roomFor 7 = true ∧ (floatVal (floats.reg 2)).isNan = true ∧ (floatVal (floats.reg 0)).isNan = false ∧
    (floatVal (floats.reg 1)).isNan = false ∧
    seen (fun t => (t.reg 7, t.sr.rA)) (exec (.fsub 7 1 0) floats) = some (0x3FF8000000000000, 0) := by decide +kernel

theorem witness_FloatMultiplyDivide :
    floats.roomFor 7 = true ∧ seen (fun t => (t.reg 7, t.sr.rA)) (exec (.fmul 7 6 0) floats) = some (1, 0) ∧
    seen (fun t => (t.reg 7, t.sr.rA)) (exec (.fdiv 7 4 5) floats) = some (0xFFF0000000000000, 2) := by decide +kernel

/-- The three inexact cases below overflow: just below the least normal number and rounded up to it, where U depends on
`TININESS`; rounded to a subnormal; and above (R422, R423). -/
theorem witness_RoundsTo_inexact :
    let at_ (t : Tininess) (y z : Word) : Option Word :=
      seen (fun t => t.sr.rA) (exec (.fmul 2 0 1) { sample [y, z] with params := { tininess := t } })
    at_ .beforeRounding 0x0010000000000001 0x3FEFFFFFFFFFFFFE = some 5 ∧
    at_ .afterRounding 0x0010000000000001 0x3FEFFFFFFFFFFFFE = some 1 ∧
    at_ .afterRounding 0x0010000000000000 0x3FEFFFFFFFFFFFFF = some 5 ∧
    at_ .afterRounding 0x3FF0000000000001 0x3FF0000000000001 = some 1 := by decide +kernel

theorem witness_FloatRemainder :
    floats.roomFor 7 = true ∧ seen (fun t => (t.reg 7, t.sr.rA)) (exec (.frem 7 1 0) floats) = some (0x3FE0000000000000, 0) := by
  decide +kernel

/-- Every legal rounding field, and each mode of rA. -/
theorem witness_ModeOfField :
    ModeOfField floats 0 .near ∧ ModeOfField floats 1 .off ∧ ModeOfField floats 2 .up ∧ ModeOfField floats 3 .down ∧
    ModeOfField floats 4 .near ∧ (floats.setSr { Specials.reset with rA := 0x10000 }).modeRA = .off ∧
    (floats.setSr { Specials.reset with rA := 0x20000 }).modeRA = .up ∧
    (floats.setSr { Specials.reset with rA := 0x3FFFF }).modeRA = .down := by
  unfold ModeOfField
  decide

theorem witness_SquareRootAndIntegral :
    floats.roomFor 7 = true ∧ ModeOfField floats 4 .near ∧
    seen (fun t => (t.reg 7, t.sr.rA)) (exec (.fint 7 4 1) floats) = some (0x4000000000000000, 1) ∧
    seen (fun t => (t.reg 7, t.sr.rA)) (exec (.fsqrt 7 4 0) floats) = some (0x3FF0000000000000, 0) := by
  unfold ModeOfField
  decide +kernel

theorem witness_FloatToInteger :
    floats.roomFor 7 = true ∧ ModeOfField floats 2 .up ∧
    seen (fun t => (t.reg 7, t.sr.rA)) (exec (.fix 7 2 1) floats) = some (3, 1) := by
  unfold ModeOfField
  decide +kernel

theorem witness_IntegerToFloat :
    floats.roomFor 7 = true ∧ ModeOfField floats 3 .down ∧
    seen (fun t => (t.reg 7, t.sr.rA)) (exec (.floti 7 3 255) floats) = some (0x406FE00000000000, 0) := by
  unfold ModeOfField
  decide +kernel

/-- A NaN among the operands, and none. -/
theorem witness_FloatComparisons :
    floats.roomFor 7 = true ∧ (floatVal (floats.reg 2)).isNan = true ∧ (floatVal (floats.reg 3)).isNan = true ∧
    (floatVal (floats.reg 0)).isNan = false ∧ (floatVal (floats.reg 4)).isNan = false := by decide +kernel

/-- The datum 1.0 in units of `2^-1074`. -/
theorem floatVal_one : floatVal 0x3FF0000000000000 = .finite false (2 ^ 1074) := by decide +kernel

theorem floatVal_zero : floatVal 0 = .finite false 0 := by decide +kernel

theorem near_finite {e m : Nat} (hm : m ≠ 0) (a b : Bool) (n : Nat) :
    Near (.finite false e) (.finite a m) (.finite b n) ↔
      ∃ k : ℤ, (2 : ℚ) ^ k ≤ |(FloatVal.finite a m).rat| ∧ |(FloatVal.finite a m).rat| < 2 ^ (k + 1) ∧
        |(FloatVal.finite b n).rat - (FloatVal.finite a m).rat| ≤ (FloatVal.finite false e).rat * 2 ^ (k + 1) := by
  simp [Near, hm]

theorem not_near_zero {e : FloatVal} {a b : Bool} {n : Nat} (hn : n ≠ 0) : ¬Near e (.finite a 0) (.finite b n) := by
  simp [Near, hn]

theorem rat_zero (a : Bool) : (FloatVal.finite a 0).rat = 0 := by cases a <;> simp [FloatVal.rat, signedUnits]

/-- 1.0, as a datum whose units are not written out. -/
theorem one_units : ∃ m : Nat, floatVal 0x3FF0000000000000 = .finite false m ∧ m ≠ 0 ∧ (FloatVal.finite false m).rat = 1 := by
  refine ⟨2 ^ 1074, floatVal_one, pow_ne_zero _ two_ne_zero, ?_⟩
  rw [FloatVal.rat, signedUnits, if_neg (by decide), Int.cast_natCast, Nat.cast_pow, Nat.cast_ofNat]
  exact div_self (pow_ne_zero _ two_ne_zero)

/-- Unordered by a NaN and by a tolerance of -0; ordered, with neighbours (1.0 and itself) and without (0 and 1.0, which
is no neighbour of 0). -/
theorem witness_EpsilonComparisons :
    (floats.roomFor 7 = true ∧ floats.reg 0 = 0x3FF0000000000000 ∧ floats.sr.rE = 0) ∧
    (Unordered 0 0x7FF8000000000001 0x3FF0000000000000 ∧
      Unordered 0x8000000000000000 0x3FF0000000000000 0x3FF0000000000000) ∧
    (¬Unordered 0 0x3FF0000000000000 0x3FF0000000000000 ∧ ¬Unordered 0 0x3FF0000000000000 0) := by
  refine ⟨by decide, ⟨?_, ?_⟩, ?_, ?_⟩ <;>
    (unfold Unordered; decide +kernel)

/-- With the tolerance 0, 1.0 is a neighbour of itself; 1.0 and a zero are not similar, let alone essentially equal. -/
theorem witness_EpsilonComparisons_near :
    ∃ e u : FloatVal, floatVal 0 = e ∧ floatVal 0x3FF0000000000000 = u ∧ Near e u u ∧ ¬(Near e e u ∨ Near e u e) ∧
      ¬(Near e e u ∧ Near e u e) := by
  obtain ⟨m, hu, hm, hr⟩ := one_units
  have far : ¬Near (.finite false 0) (.finite false m) (.finite false 0) := by
    rw [near_finite hm, hr, rat_zero]
    rintro ⟨k, -, -, h⟩
    norm_num at h
  refine ⟨_, _, floatVal_zero, hu, ?_, ?_, fun h => not_near_zero hm h.1⟩
  · rw [near_finite hm, hr, rat_zero]
    exact ⟨0, by norm_num, by norm_num, by norm_num⟩
  · rintro (h | h)
    · exact not_near_zero hm h
    · exact far h

theorem witness_ZeroToleranceIsExact :
    floats.sr.rE = 0 ∧ (floatVal (floats.reg 0)).isNan = false ∧ (floatVal (floats.reg 4)).isNan = false := by decide +kernel

theorem witness_HintsOnlyAdvance : Instr.preld ∈ [Instr.preld, .preldi, .prego, .pregoi, .prest, .presti, .swym, .syncid,
    .syncidi, .sync, .syncd, .syncdi, .ldvts, .ldvtsi] := by decide

/-- The least and the greatest number, a counter, and the numbers next to the counters. -/
theorem witness_GetReadsSpecials :
    tight.roomFor 3 = true ∧ (0#8).toNat < 32 ∧ (31#8).toNat < 32 ∧ 8#8 ∈ [8#8, 12#8, 17#8] ∧ 18#8 ∉ [8#8, 12#8, 17#8] ∧
    seen (fun t => (t.draws, t.reg 3)) (exec (.get 3 0 20) tight) = some (0, 2) := by decide

/-- The greatest legal rA and the least illegal; the bounds of rG and L itself; rL lowered and left. -/
theorem witness_PutWritesSpecials :
    ∃ s : State, s.Inv ∧ s.L = 33 ∧ specialOf 21 = some .rA ∧ (s.reg 0).toNat < 2 ^ 18 ∧ 2 ^ 18 ≤ (s.reg 1).toNat ∧
      (32 ≤ (zext8 33).toNat ∧ (zext8 33).toNat ≤ 255 ∧ s.L ≤ (zext8 33).toNat) ∧ (zext8 32).toNat < s.L ∧
      (zext8 31).toNat < 32 ∧ (zext8 255).toNat ≤ 255 ∧ 255 < (s.reg 2).toNat := by
  refine ⟨sample ([0x3FFFF, 0x40000, 256] ++ List.replicate 30 0), inv_of _ rfl .empty (by decide), by decide⟩

theorem witness_IllegalFieldsFault :
    5 ≤ (5#8).toNat ∧ 1#8 ≠ 0 ∧ 32 ≤ (32#8).toNat ∧ (9 ≤ (11#8).toNat ∧ (11#8).toNat ≤ 11) ∧
    (12 ≤ (18#8).toNat ∧ (18#8).toNat ≤ 18) ∧ 2 ≤ (255#8).toNat ∧ State.reset.sr.rX.msb = false ∧ 8#8 ≠ 7#8 := by decide

/-- A context with locals and a global. -/
theorem witness_SaveLaysOutContext :
    (callee [0x2000000000000007, 5]).Inv ∧ (callee [0x2000000000000007, 5]).roomFor 0 = true ∧
    1 < (callee [0x2000000000000007, 5]).L ∧ (callee [0x2000000000000007, 5]).G ≤ (255#8).toNat :=
  ⟨callee_inv _ (by decide), by decide⟩

/-- A state whose `$0` addresses this final octa. -/
def saved (octa : Word) (limit : Option Nat) : State :=
  { sample [0x2000000000000000] Specials.reset (Memory.store [] 8 0x2000000000000000 octa) with params := { ringLimit := limit } }

/-- G below 32; L above G; a context that does not fit, and ones that do, at the bounds of G and L. -/
theorem witness_UnsaveRestoresContext :
    let t (o : Word) (n : Option Nat) : Word := octaIn (saved o n).mem (effective 8 ((saved o n).reg 0 &&& ~~~7#64))
    ((t 0x1F00000000000000 none).extractLsb' 56 8).toNat < 32 ∧
    ((t 0x2021000000000000 none).extractLsb' 56 8).toNat < ((t 0x2021000000000000 none).extractLsb' 48 8).toNat ∧
    (32 ≤ ((t 0x2020000000000000 (some 31)).extractLsb' 56 8).toNat ∧
      ((t 0x2020000000000000 (some 31)).extractLsb' 48 8).toNat = 32 ∧
      (saved 0x2020000000000000 (some 31)).ringAllows 0 32 = false) ∧
    (saved 0x2020000000000000 (some 32)).ringAllows 0 32 = true := by decide

theorem witness_SaveUnsaveRoundTrip :
    ∃ t, (callee [0x2000000000000000, 5]).Inv ∧ (callee [0x2000000000000000, 5]).roomFor 0 = true ∧
      exec (.save 0 0 0) (callee [0x2000000000000000, 5]) = .next t ∧ KeptMem t t ∧
      t.stack = (callee [0x2000000000000000, 5]).stack ∧ t.params = (callee [0x2000000000000000, 5]).params ∧
      t.reg 0 = t.reg 0 :=
  ⟨_, callee_inv _ (by decide), by decide, rfl, fun _ => rfl, rfl, rfl, rfl⟩

/-- Two bytes and none; a handle that is neither stream. -/
theorem witness_TrapHaltAndFputs :
    greeting.roomFor 255 = true ∧
    ((∀ i, (h : i < [72#8, 105].length) → greeting.mem.read (effective 1 (greeting.reg 255 + BitVec.ofNat 64 i)) = [72#8, 105][i] ∧
      [72#8, 105][i] ≠ 0) ∧
      greeting.mem.read (effective 1 (greeting.reg 255 + BitVec.ofNat 64 2)) = 0) ∧
    State.reset.mem.read (effective 1 (State.reset.reg 255 + BitVec.ofNat 64 0)) = 0 ∧ (0#8 ≠ 1#8 ∧ 0#8 ≠ 2#8) ∧
    3#8 ≠ 1#8 ∧ 3#8 ≠ 2#8 := by
  refine ⟨by decide, ⟨fun i h => ?_, by decide⟩, by decide, by decide, by decide⟩
  match i, h with
  | 0, _ => exact ⟨rfl, (by decide : 72#8 ≠ 0)⟩
  | 1, _ => exact ⟨rfl, (by decide : 105#8 ≠ 0)⟩

theorem witness_TripAndResume :
    tight.roomFor 255 = true ∧
    (State.reset.setSr { Specials.reset with rX := 0x8000000000000000 }).sr.rX.msb = true := by decide

theorem witness_FaultsArePrecise :
    tight.status = .running ∧ ∃ t, exec (.resume 0 0 1) tight = .next t ∧ t.status = .faulted .privileged :=
  ⟨rfl, _, rfl, rfl⟩

theorem witness_EventsOnlyAccumulate :
    (∀ x y z, Instr.addi 6 5 1 ≠ .put x y z ∧ Instr.addi 6 5 1 ≠ .puti x y z ∧ Instr.addi 6 5 1 ≠ .unsave x y z) ∧
    ∃ t, exec (.addi 6 5 1) integers = .next t := by
  refine ⟨fun x y z => ⟨?_, ?_, ?_⟩, _, rfl⟩ <;> exact fun h => Instr.noConfusion h

/-- An instruction that no clause excepts, one that faults and leaves `pc`, and the one that halts. -/
theorem witness_StateChangesOnlyByName :
    (∃ t, exec (.addi 6 5 1) integers = .next t) ∧ mayStore (.addi 6 5 1) = false ∧
    (∀ x y z k, Instr.addi 6 5 1 ≠ .pushj x k ∧ Instr.addi 6 5 1 ≠ .pushjb x k ∧ Instr.addi 6 5 1 ≠ .pushgo x y z ∧
      Instr.addi 6 5 1 ≠ .pushgoi x y z ∧ Instr.addi 6 5 1 ≠ .pop x k) ∧
    (∀ x y z, Instr.addi 6 5 1 ≠ .get x y z ∧ Instr.addi 6 5 1 ≠ .trap x y z) ∧
    (SpecialReg.rH ∉ [SpecialReg.rA, .rL, .rC, .rI, .rU] ∧ opcode (.addi 6 5 1) ∉ writersOf .rH ∧
      opcode (.mulu 6 5 1) ∈ writersOf .rH ∧ transfersControl (opcode (.addi 6 5 1)) = false) ∧
    (transfersControl (opcode (.put 21 1 0)) = false ∧
      seen (fun t => (t.pc, t.status)) (exec (.put 21 1 0) integers) = some (integers.pc, .faulted .illegalInstruction)) ∧
    integers.status = .running ∧ ∃ t, exec (.trap 0 0 255) integers = .next t ∧ t.status = .halted 255 := by
  refine ⟨⟨_, rfl⟩, rfl, fun x y z k => ⟨?_, ?_, ?_, ?_, ?_⟩, fun x y z => ⟨?_, ?_⟩, by decide, by decide, rfl, _, rfl, rfl⟩ <;>
    exact fun h => Instr.noConfusion h

/-- The two tables of opcodes, by the names of the instructions (R40, R27). -/
theorem test_writersOf :
    writersOf .rB = [opcode (.trip 0 0 0), opcode (.put 0 0 0), opcode (.puti 0 0 0), opcode (.unsave 0 0 0)] ∧
    (writersOf .rH).take 2 = [opcode (.mulu 0 0 0), opcode (.mului 0 0 0)] ∧
    (writersOf .rJ).take 4 = [opcode (.pushj 0 0), opcode (.pushjb 0 0), opcode (.pushgo 0 0 0), opcode (.pushgoi 0 0 0)] ∧
    (writersOf .rR).take 4 = [opcode (.div 0 0 0), opcode (.divi 0 0 0), opcode (.divu 0 0 0), opcode (.divui 0 0 0)] ∧
    (writersOf .rP).take 2 = [opcode (.cswap 0 0 0), opcode (.cswapi 0 0 0)] ∧
    writersOf .rO = [opcode (.pushj 0 0), opcode (.pushjb 0 0), opcode (.pushgo 0 0 0), opcode (.pushgoi 0 0 0), opcode (.pop 0 0)] ∧
    [opcode (.bn 0 0), opcode (.pbevb 0 0), opcode (.go 0 0 0), opcode (.goi 0 0 0), opcode (.jmp 0), opcode (.jmpb 0),
      opcode (.resume 0 0 0), opcode (.trip 0 0 0)].all transfersControl = true := by decide

end Sys2Proof.Tests
end

section
/-! The state family (O5, O9 to O13, O59, O60). `exec` has 256 arms but only a few shapes. `Written` and `Moved` list every
state that an instruction can complete in, with what each owes to the instruction's row; `exec_meaning` goes through the
arms once and says which shape each has. Every statement about all instructions is then a proof over the shapes. -/

namespace Sys2Proof.Machine

/-! ### Alignment of targets, and bits above the events of rA -/

/-- A computed target is a multiple of 4 (45_control_transfer.md R405). -/
theorem alignTarget_mod_four (a : Word) : (alignTarget a).toNat % 4 = 0 := by
  have h3 : (~~~3#64 : Word).toNat % 2 ^ 2 = 0 := by decide
  rw [alignTarget, BitVec.toNat_and, show (4 : Nat) = 2 ^ 2 from rfl, Nat.and_mod_two_pow, h3, Nat.and_zero]

/-- A relative target is as aligned as `pc` (30_encoding.md R124, R125). -/
theorem relTarget_mod_four {pc : Word} (h : pc.toNat % 4 = 0) (k : Int) : (relTarget pc k).toNat % 4 = 0 := by
  rw [relTarget, wrap64, BitVec.toNat_ofInt]
  omega

theorem advance_mod_four {pc : Word} (h : pc.toNat % 4 = 0) : (pc + 4).toNat % 4 = 0 := by
  rw [BitVec.toNat_add, show (4 : Word).toNat = 4 from rfl]
  omega

/-- Setting event bits keeps rA below 2^18 (10_state.md R41, R43). -/
theorem or_events_lt {a : Word} (h : a.toNat < 2 ^ 18) (ev : Byte) : (a ||| ev.setWidth 64).toNat < 2 ^ 18 := by
  have hev : (ev.setWidth 64 : Word).toNat < 2 ^ 18 := by
    rw [BitVec.toNat_setWidth]
    have := ev.isLt
    omega
  rw [BitVec.toNat_or]
  exact Nat.or_lt_two_pow h hev

/-! ### The check of RING_LIMIT (10_state.md R33) -/

/-- The check depends on the parameters alone. -/
theorem ringAllows_congr {s t : State} (h : t.params = s.params) (d l : Nat) : t.ringAllows d l = s.ringAllows d l := by
  unfold State.ringAllows
  rw [h]

/-- What is allowed stays allowed with fewer octas. -/
theorem ringAllows_mono {s : State} {d l d' l' : Nat} (hle : d' + l' ≤ d + l) (h : s.ringAllows d l = true) :
    s.ringAllows d' l' = true := by
  unfold State.ringAllows at *
  split at h
  · rfl
  · exact decide_eq_true (Nat.le_trans hle (of_decide_eq_true h))

/-- Past a finite limit a marginal register has no room (R25). -/
theorem roomFor_eq_false {s : State} {x : Byte} {n : Nat} (hn : s.params.ringLimit = some n) (hL : s.L ≤ x.toNat)
    (hG : x.toNat < s.G) (h : n < s.stack.length + (x.toNat + 1)) : s.roomFor x = false := by
  have hm : s.marginal x = true := decide_eq_true ⟨hL, hG⟩
  have hr : s.ringAllows s.stack.length (x.toNat + 1) = false := by
    unfold State.ringAllows
    rw [hn]
    exact decide_eq_false (by omega)
  rw [State.roomFor, hm, hr]
  rfl

/-! ### The instructions with a rule of their own -/

/-- The four pushes (45_control_transfer.md R401, R402). -/
inductive IsPush : Instr → Prop
  | pushj (x : Byte) (yz : Wyde) : IsPush (.pushj x yz)
  | pushjb (x : Byte) (yz : Wyde) : IsPush (.pushjb x yz)
  | pushgo (x y z : Byte) : IsPush (.pushgo x y z)
  | pushgoi (x y z : Byte) : IsPush (.pushgoi x y z)

/-- `PUT` and `PUTI` (47_system.md R477). -/
inductive IsPut : Instr → Prop
  | put (x y z : Byte) : IsPut (.put x y z)
  | puti (x y z : Byte) : IsPut (.puti x y z)

theorem IsPush.destination {i : Instr} (h : IsPush i) : destination i = none := by cases h <;> rfl

theorem IsPush.opcode_mem {i : Instr} (h : IsPush i) : opcode i ∈ [0xF2#8, 0xF3#8, 0xBE#8, 0xBF#8] := by
  cases h with
  | pushj => exact .head _
  | pushjb => exact .tail _ (.head _)
  | pushgo => exact .tail _ (.tail _ (.head _))
  | pushgoi => exact .tail _ (.tail _ (.tail _ (.head _)))

theorem IsPush.transfersControl {i : Instr} (h : IsPush i) : transfersControl (opcode i) = true := by cases h <;> rfl

theorem IsPush.movesWindow {i : Instr} (h : IsPush i) : movesWindow i = true := by cases h <;> rfl

theorem IsPut.destination {i : Instr} (h : IsPut i) : destination i = none := by cases h <;> rfl

theorem IsPut.opcode_mem {i : Instr} (h : IsPut i) : opcode i ∈ [0xF6#8, 0xF7#8] := by
  cases h with
  | put => exact .head _
  | puti => exact .tail _ (.head _)

theorem IsPut.movesWindow {i : Instr} (h : IsPut i) : movesWindow i = true := by cases h <;> rfl

/-- The stored special registers that `PUT` may not write (10_state.md R40, 30_encoding.md R130). -/
def Specials.privileged (q : Specials) : List Word := [q.rT, q.rTT, q.rK, q.rQ, q.rV]

/-- The stored special registers that a saved context does not hold (47_system.md R481). -/
def Specials.unsaved (q : Specials) : List Word := q.privileged ++ [q.rBB, q.rF, q.rWW, q.rXX, q.rYY, q.rZZ]

/-! ### The states an instruction completes in -/

/-- The states in which an instruction that writes `$x` completes, when `RING_LIMIT` leaves room for the write. -/
inductive Written (i : Instr) (s : State) (x : Byte) : State → Prop
  /-- A value and events. -/
  | plain (v : Word) (ev : Byte) : Written i s x ((s.setReg x v).event ev).advance
  /-- `MULU` (40_integer_arith.md R210). -/
  | product (v h : Word) (hi : opcode i ∈ [0x1A#8, 0x1B#8]) :
      Written i s x ((s.setReg x v).setSr { s.sr with rH := h }).advance
  /-- `DIV` and `DIVU` (R211, R212). -/
  | quotient (v r : Word) (ev : Byte) (hi : opcode i ∈ [0x1C#8, 0x1D#8, 0x1E#8, 0x1F#8]) :
      Written i s x (((s.setReg x v).setSr { s.sr with rR := r }).event ev).advance
  /-- `GO` (45_control_transfer.md R399). -/
  | linked (a : Word) (hi : transfersControl (opcode i) = true) :
      Written i s x ((s.setReg x (s.pc + 4)).setPc (alignTarget a))
  /-- `CSWAP` with equal octas, and `SAVE` (43_load_store.md R331, 47_system.md R481). -/
  | stored (m : Memory) (v : Word) (hi : mayStore i = true) (hm : s.mem.wf → m.wf) :
      Written i s x ((s.setMem m).setReg x v).advance
  /-- `CSWAP` with different octas (R331). -/
  | compared (p v : Word) (hi : opcode i ∈ [0x94#8, 0x95#8]) :
      Written i s x ((s.setSr { s.sr with rP := p }).setReg x v).advance
  /-- `GET` (47_system.md R476). -/
  | got (v : Word) (n : Nat) (hi : ∃ y z, i = .get x y z) : Written i s x ((s.setReg x v).setDraws n).advance
  /-- `Fputs` (R492). -/
  | spoken (v : Word) (o : Outputs) (n : Nat) (hi : ∃ a z, i = .trap a 7 z) :
      Written i s x (((s.setReg x v).setOut o).setDraws n).advance
  /-- `TRIP` (R494). -/
  | tripped (w : Tetra) (y z : Word) (hi : opcode i ∈ [0xFF#8]) (hx : x = 255) : Written i s x (s.trip w y z)

/-- The states in which an instruction completes that writes no register through R25. -/
inductive Moved (i : Instr) (s : State) : State → Prop
  /-- A hint, a branch not taken, `PUT rL` of a value that is not below L (47_system.md R470, R480). -/
  | advanced : Moved i s s.advance
  /-- A jump, a branch taken, `RESUME` (45_control_transfer.md R380, R397, 47_system.md R495). -/
  | jumped (a : Word) (hi : transfersControl (opcode i) = true) (ha : s.pc.toNat % 4 = 0 → a.toNat % 4 = 0) :
      Moved i s (s.setPc a)
  /-- A store (43_load_store.md R320). -/
  | stored (m : Memory) (ev : Byte) (hi : mayStore i = true) (hm : s.mem.wf → m.wf) :
      Moved i s ((s.setMem m).event ev).advance
  /-- A push (45_control_transfer.md R400). -/
  | pushed (x : Byte) (a : Word) (hi : IsPush i) (ha : s.pc.toNat % 4 = 0 → a.toNat % 4 = 0)
      (hr : s.ringAllows (s.pushed x a).stack.length (s.pushed x a).L = true) : Moved i s (s.pushed x a)
  /-- `POP` (R403). -/
  | popped (x : Byte) (yz : Wyde) (hi : i = .pop x yz) (hs : s.stack ≠ []) : Moved i s (s.popped x yz)
  /-- `PUT` to a stored special register (47_system.md R477, R478). -/
  | put (q : Specials) (hi : IsPut i) (hA : q.rA = s.sr.rA ∨ q.rA.toNat < 2 ^ 18)
      (hq : q.privileged = s.sr.privileged) : Moved i s (s.setSr q).advance
  /-- `PUT rG` (R479). -/
  | putG (g : Nat) (hi : IsPut i) (hg : 32 ≤ g ∧ g ≤ 255 ∧ s.L ≤ g) : Moved i s (s.setG g).advance
  /-- `PUT rL` of a value below L (R480). -/
  | putL (n : Nat) (hi : IsPut i) : Moved i s (s.setFrame (s.frame.take n)).advance
  /-- `UNSAVE` (R482). -/
  | unsaved (q : Specials) (g l : List Word) (hi : ∃ x y z, i = .unsave x y z) (hA : q.rA.toNat < 2 ^ 18)
      (hq : q.unsaved = s.sr.unsaved) (hg : 32 ≤ 256 - g.length ∧ 256 - g.length ≤ 255) (hl : l.length ≤ 256 - g.length)
      (hr : s.ringAllows s.stack.length l.length = true) : Moved i s (((s.setSr q).setGlob g).setFrame l).advance
  /-- `Halt` (R490). -/
  | halted (z : Byte) (hi : ∃ x, i = .trap x 0 z) : Moved i s (s.setStatus (.halted z)).advance

/-- What `exec` can answer: a guarded register write, another completed state, or a fault. A fault of an instruction that
names a destination is either that of `RING_LIMIT` or one that a check of its fields raises. -/
inductive Meaning (i : Instr) (s : State) : Result → Prop
  | written {x : Byte} {u : State} (hd : destination i = some x) (hu : Written i s x u) :
      Meaning i s (s.guardWrite x u)
  | moved {u : State} (hd : destination i = none) (hu : Moved i s u) : Meaning i s (.next u)
  | faulted {f : FaultReason} (h : destination i = none ∨ wellFormed i = false) : Meaning i s (s.fails f)

/-! ### The shape of each shared operation -/

section Shapes

variable {i : Instr} {s : State} {x : Byte}

theorem Meaning.writeX {v : Word} {ev : Byte} (hd : destination i = some x) : Meaning i s (s.writeX x v ev) :=
  .written hd (.plain v ev)

/-- A rounding-mode field that selects no mode is not well formed (30_encoding.md R127). -/
theorem roundingFieldLegal_of_modeY_none {y : Byte} (h : s.modeY y = none) : roundingFieldLegal y = false := by
  have hy : ¬y.toNat ≤ 4 := by
    unfold State.modeY at h
    split at h <;> first | contradiction | (simp only [imp_false] at *; omega)
  exact decide_eq_false hy

theorem Meaning.roundedX {y : Byte} {op : Rounding → Word × Byte} (hd : destination i = some x)
    (hw : wellFormed i = roundingFieldLegal y) : Meaning i s (s.roundedX x y op) := by
  unfold State.roundedX
  split
  · exact .faulted (.inr (hw.trans (roundingFieldLegal_of_modeY_none ‹_›)))
  · exact .writeX hd

theorem Meaning.multiplyHighX {y z : Word} (hd : destination i = some x) (hi : opcode i ∈ [0x1A#8, 0x1B#8]) :
    Meaning i s (s.multiplyHighX x y z) := .written hd (.product _ _ hi)

theorem Meaning.divideX {r : Word × Word × Byte} (hd : destination i = some x)
    (hi : opcode i ∈ [0x1C#8, 0x1D#8, 0x1E#8, 0x1F#8]) : Meaning i s (s.divideX x r) :=
  .written hd (.quotient _ _ _ hi)

theorem Meaning.goX {a : Word} (hd : destination i = some x) (hi : transfersControl (opcode i) = true) :
    Meaning i s (s.goX x a) := .written hd (.linked a hi)

theorem Meaning.compareSwap {a : Word} (hd : destination i = some x) (hs : mayStore i = true)
    (hi : opcode i ∈ [0x94#8, 0x95#8]) : Meaning i s (s.compareSwap x a) := by
  unfold State.compareSwap
  split
  · exact .written hd (.stored _ _ hs fun h => Memory.store_wf h (.inr (.inr (.inr rfl))) _ _)
  · exact .written hd (.compared _ _ hi)

theorem Meaning.storeX {n : Nat} {a v : Word} {ev : Byte} (hd : destination i = none) (hi : mayStore i = true)
    (hn : AccessSize n) : Meaning i s (s.storeX n a v ev) :=
  .moved hd (.stored _ ev hi fun h => Memory.store_wf h hn a v)

theorem Meaning.branch {c : Cond} {k : Int} (hd : destination i = none) (hi : transfersControl (opcode i) = true) :
    Meaning i s (s.branch c x k) := by
  unfold State.branch
  split
  · exact .moved hd (.jumped _ hi fun h => relTarget_mod_four h k)
  · exact .moved hd .advanced

theorem Meaning.jump {k : Int} (hd : destination i = none) (hi : transfersControl (opcode i) = true) :
    Meaning i s (.next (s.setPc (relTarget s.pc k))) := .moved hd (.jumped _ hi fun h => relTarget_mod_four h k)

theorem Meaning.push {a : Word} (hi : IsPush i) (ha : s.pc.toNat % 4 = 0 → a.toNat % 4 = 0) :
    Meaning i s (s.push x a) := by
  simp only [State.push]
  split
  · exact .moved hi.destination (.pushed x a hi ha ‹_›)
  · exact .faulted (.inl hi.destination)

theorem Meaning.pop {yz : Wyde} : Meaning (.pop x yz) s (s.pop x yz) := by
  unfold State.pop
  split
  · exact .faulted (.inl rfl)
  · rename_i he
    exact .moved rfl (.popped x yz rfl fun e => he (by simp [e]))

theorem Meaning.putSpecial {r : SpecialReg} {v : Word} (hi : IsPut i) : Meaning i s (s.putSpecial r v) := by
  have hd := hi.destination
  cases r with
  | rN | rO | rS | rC | rI | rT | rTT | rK | rQ | rU | rV => exact .faulted (.inl hd)
  | rA =>
    simp only [State.putSpecial, State.putRA]
    split
    · exact .moved hd (.put _ hi (.inr ‹_›) rfl)
    · exact .faulted (.inl hd)
  | rG =>
    simp only [State.putSpecial, State.putRG]
    split
    · exact .faulted (.inl hd)
    · exact .moved hd (.putG _ hi (by omega))
  | rL =>
    simp only [State.putSpecial, State.putRL]
    split
    · exact .moved hd (.putL _ hi)
    · exact .moved hd .advanced
  | rB | rD | rE | rH | rJ | rM | rR | rBB | rF | rP | rW | rX | rY | rZ | rWW | rXX | rYY | rZZ =>
    exact .moved hd (.put _ hi (.inl rfl) rfl)

theorem Meaning.putNumbered {y : Byte} {v : Word} (hi : IsPut i) : Meaning i s (s.putNumbered x y v) := by
  unfold State.putNumbered
  split
  · split
    · exact .putSpecial hi
    · exact .faulted (.inl hi.destination)
  · exact .faulted (.inl hi.destination)

/-- A number that names no special register is not well formed (30_encoding.md R128). -/
theorem specialNumberLegal_of_specialOf_none {z : Byte} (h : specialOf z = none) : specialNumberLegal z = false := by
  have hz : ¬z.toNat < 32 := by
    unfold specialOf at h
    split at h <;> first | contradiction | (simp only [imp_false] at *; omega)
  exact decide_eq_false hz

theorem Meaning.getSpecial {y z : Byte} : Meaning (.get x y z) s (s.getSpecial x y z) := by
  unfold State.getSpecial
  split
  · split
    · exact .written rfl (.got _ _ ⟨y, z, rfl⟩)
    · rename_i hy
      exact .faulted (.inr (Bool.and_eq_false_iff.2 (.inl (decide_eq_false hy))))
  · rename_i hz
    exact .faulted (.inr (Bool.and_eq_false_iff.2 (.inr (specialNumberLegal_of_specialOf_none hz))))

theorem Meaning.saveContext (hd : destination i = some x) (hi : mayStore i = true) : Meaning i s (s.saveContext x) :=
  .written hd (.stored _ _ hi fun h => Memory.storeOctas_wf h _ _)

theorem Meaning.unsaveContext {y z : Byte} {f : Word} : Meaning (.unsave x y z) s (s.unsaveContext f) := by
  simp only [State.unsaveContext]
  split
  · exact .faulted (.inl rfl)
  · split
    · exact .faulted (.inl rfl)
    · rename_i hf hr
      generalize (BitVec.ofNat 64 (s.mem.load 8 f) : Word) = o at hf hr ⊢
      have hg : (o.extractLsb' 56 8).toNat < 256 := (o.extractLsb' 56 8).isLt
      have hA : ((o.extractLsb' 0 18).setWidth 64 : Word).toNat < 2 ^ 18 := by
        have := (o.extractLsb' 0 18).isLt
        rw [BitVec.toNat_setWidth]
        omega
      refine .moved rfl (.unsaved _ _ _ ⟨x, y, z, rfl⟩ hA rfl ?_ ?_ ?_)
      · rw [Memory.length_loadOctas]
        omega
      · rw [Memory.length_loadOctas, Memory.length_loadOctas]
        omega
      · rw [Memory.length_loadOctas]
        simpa using hr

theorem Meaning.trap {y z : Byte} : Meaning (.trap x y z) s (execTrap x y z s) := by
  unfold execTrap
  split
  · rename_i hy
    obtain rfl : y = 0#8 := BitVec.eq_of_toNat_eq hy
    exact .moved rfl (.halted z ⟨x, rfl⟩)
  · rename_i hy
    obtain rfl : y = 7#8 := BitVec.eq_of_toNat_eq hy
    unfold State.trapFputs
    split
    · exact .written rfl (.spoken _ _ _ ⟨x, z, rfl⟩)
    · rename_i hz
      exact .faulted (.inr (decide_eq_false fun h => h.elim (by decide) fun h => hz h.2))
  · rename_i h0 h7
    exact .faulted (.inr (decide_eq_false fun h => h.elim h0 fun h => h7 h.1))

theorem Meaning.trip {y z : Byte} : Meaning (.trip x y z) s (execTrip x y z s) :=
  .written rfl (.tripped _ _ _ (.head _) rfl)

theorem Meaning.resume {y z : Byte} : Meaning (.resume x y z) s (execResume x y z s) := by
  unfold execResume
  split
  · exact .faulted (.inl rfl)
  · split
    · exact .faulted (.inl rfl)
    · unfold State.resume
      split
      · exact .moved rfl (.jumped _ rfl fun _ => alignTarget_mod_four _)
      · exact .faulted (.inl rfl)

end Shapes

/-- The shape of every arm of `exec`: one case per shared operation, and one for each instruction with a rule of its
own. -/
theorem exec_meaning (i : Instr) (s : State) : Meaning i s (exec i s) := by
  cases i with
  | funop | feql | fune | feqle | cmp | cmpi | cmpu | cmpui | sl | sli | slu | slui | sr | sri | sru | srui | csn |
  csni | csz | cszi | csp | cspi | csod | csodi | csnn | csnni | csnz | csnzi | csnp | csnpi | csev | csevi | zsn |
  zsni | zsz | zszi | zsp | zspi | zsod | zsodi | zsnn | zsnni | zsnz | zsnzi | zsnp | zsnpi | zsev | zsevi | ldb |
  ldbi | ldbu | ldbui | ldw | ldwi | ldwu | ldwui | ldt | ldti | ldtu | ldtui | ldo | ldoi | ldou | ldoui | ldsf |
  ldsfi | ldht | ldhti | ldunc | ldunci | or | ori | orn | orni | nor | nori | xor | xori | and | andi | andn |
  andni | nand | nandi | nxor | nxori | bdif | bdifi | wdif | wdifi | tdif | tdifi | odif | odifi | mux | muxi |
  sadd | saddi | mor | mori | mxor | mxori | seth | setmh | setml | setl | inch | incmh | incml | incl | orh | ormh
  | orml | orl | andnh | andnmh | andnml | andnl | geta | getab | fcmp | fadd | fsub | fmul | fcmpe | fdiv | frem |
  mul | muli | add | addi | sub | subi | neg | negi | addu | addui | subu | subui | twoAddu | twoAddui | fourAddu |
  fourAddui | eightAddu | eightAddui | sixteenAddu | sixteenAddui | negu | negui =>
    exact .writeX rfl
  | fix | fixu | flot | floti | flotu | flotui | sflot | sfloti | sflotu | sflotui | fsqrt | fint =>
    exact .roundedX rfl rfl
  | mulu => exact .multiplyHighX rfl (.head _)
  | mului => exact .multiplyHighX rfl (.tail _ (.head _))
  | div => exact .divideX rfl (.head _)
  | divi => exact .divideX rfl (.tail _ (.head _))
  | divu => exact .divideX rfl (.tail _ (.tail _ (.head _)))
  | divui => exact .divideX rfl (.tail _ (.tail _ (.tail _ (.head _))))
  | go | goi =>
    exact .goX rfl rfl
  | cswap => exact .compareSwap rfl rfl (.head _)
  | cswapi => exact .compareSwap rfl rfl (.tail _ (.head _))
  | stb | stbi | stbu | stbui =>
    exact .storeX rfl rfl (.inl rfl)
  | stw | stwi | stwu | stwui =>
    exact .storeX rfl rfl (.inr (.inl rfl))
  | stt | stti | sttu | sttui | stht | sthti | stsf | stsfi =>
    exact .storeX rfl rfl (.inr (.inr (.inl rfl)))
  | sto | stoi | stou | stoui | stco | stcoi | stunc | stunci =>
    exact .storeX rfl rfl (.inr (.inr (.inr rfl)))
  | bn | bnb | bz | bzb | bp | bpb | bod | bodb | bnn | bnnb | bnz | bnzb | bnp | bnpb | bev | bevb | pbn | pbnb |
  pbz | pbzb | pbp | pbpb | pbod | pbodb | pbnn | pbnnb | pbnz | pbnzb | pbnp | pbnpb | pbev | pbevb =>
    exact .branch rfl rfl
  | ldvts | ldvtsi | preld | preldi | prego | pregoi | syncd | syncdi | prest | presti | syncid | syncidi | sync |
  swym =>
    exact .moved rfl .advanced
  | jmp | jmpb => exact .jump rfl rfl
  | pushj x yz => exact .push (.pushj x yz) fun h => relTarget_mod_four h _
  | pushjb x yz => exact .push (.pushjb x yz) fun h => relTarget_mod_four h _
  | pushgo x y z => exact .push (.pushgo x y z) fun _ => alignTarget_mod_four _
  | pushgoi x y z => exact .push (.pushgoi x y z) fun _ => alignTarget_mod_four _
  | pop => exact .pop
  | put x y z => exact .putNumbered (.put x y z)
  | puti x y z => exact .putNumbered (.puti x y z)
  | get => exact .getSpecial
  | save => exact .saveContext rfl rfl
  | unsave => exact .unsaveContext
  | trap => exact .trap
  | trip => exact .trip
  | resume => exact .resume

/-- What an instruction that answers a next state has done: written its destination, completed without writing one, or
faulted. -/
theorem exec_next_cases {i : Instr} {s t : State} (h : exec i s = .next t) :
    (∃ x, destination i = some x ∧ s.roomFor x = true ∧ Written i s x t) ∨ (destination i = none ∧ Moved i s t) ∨
      ∃ f, t = s.raise f := by
  have hm := exec_meaning i s
  rw [h] at hm
  generalize hr : (Host.Outcome.next t : Result) = r at hm
  cases hm with
  | written hd hu =>
    obtain ⟨hroom, rfl⟩ | ⟨-, rfl⟩ := guardWrite_cases hr.symm
    · exact .inl ⟨_, hd, hroom, hu⟩
    · exact .inr (.inr ⟨_, rfl⟩)
  | moved hd hu =>
    cases hr
    exact .inr (.inl ⟨hd, hu⟩)
  | faulted =>
    cases hr
    exact .inr (.inr ⟨_, rfl⟩)

/-- Every instruction answers a next state, a fault of the block being one (60_exceptions.md R506). -/
theorem exec_next (i : Instr) (s : State) : ∃ t, exec i s = .next t := by
  have hm := exec_meaning i s
  generalize exec i s = r at hm ⊢
  cases hm with
  | written =>
    unfold State.guardWrite
    split <;> exact ⟨_, rfl⟩
  | moved => exact ⟨_, rfl⟩
  | faulted => exact ⟨_, rfl⟩

/-! ### The frame of the shapes: what each leaves alone -/

section Frames

variable {i : Instr} {s u : State} {x : Byte}

/-- A written state differs in the general registers by the write of its destination alone (10_state.md R25). -/
theorem Written.wroteReg (h : Written i s x u) : ∃ v, WroteReg s x v u := by
  cases h with
  | plain v | product v | quotient v | linked v | got v | spoken v => exact ⟨_, (wroteReg_setReg x _ s).congr rfl rfl⟩
  | stored m v => exact ⟨v, (wroteReg_setReg x v (s.setMem m)).congr rfl rfl⟩
  | compared p v => exact ⟨v, (wroteReg_setReg x v (s.setSr { s.sr with rP := p })).congr rfl rfl⟩
  | tripped w y z hi hx => subst hx; exact ⟨_, (wroteReg_setReg 255 s.sr.rJ s).congr rfl rfl⟩

/-- Outside the window movers no register changes without being a destination (R20, R23). -/
theorem Moved.keptRegs (h : Moved i s u) (hw : movesWindow i = false) : KeptRegs s u := by
  cases h with
  | advanced | jumped | stored | halted => exact .of_eq rfl rfl
  | pushed _ _ hi => nomatch hi.movesWindow.symm.trans hw
  | popped _ _ hi => subst hi; cases hw
  | put _ hi | putG _ hi | putL _ hi => nomatch hi.movesWindow.symm.trans hw
  | unsaved _ _ _ hi => obtain ⟨x, y, z, rfl⟩ := hi; cases hw

/-- A written state adds events to rA (60_exceptions.md R501). -/
theorem Written.events (h : Written i s x u) : ∃ ev : Byte, u.sr.rA = s.sr.rA ||| ev.setWidth 64 := by
  cases h with
  | plain v ev => exact ⟨ev, by simp⟩
  | quotient v r ev => exact ⟨ev, by simp⟩
  | product | linked | stored | compared | got | spoken | tripped => exact ⟨0, by simp [State.trip]⟩

/-- Only `PUT` and `UNSAVE` write rA otherwise (10_state.md R43). -/
theorem Moved.events (h : Moved i s u) (hput : ¬IsPut i) (hun : ∀ x y z, i ≠ .unsave x y z) :
    ∃ ev : Byte, u.sr.rA = s.sr.rA ||| ev.setWidth 64 := by
  cases h with
  | stored m ev => exact ⟨ev, by simp⟩
  | advanced | jumped | pushed | popped | halted => exact ⟨0, by simp [State.pushed, State.popped]⟩
  | put _ hi | putG _ hi | putL _ hi => exact absurd hi hput
  | unsaved _ _ _ hi => obtain ⟨x, y, z, hi⟩ := hi; exact absurd hi (hun x y z)

theorem events_raise (f : FaultReason) (s : State) : ∃ ev : Byte, (s.raise f).sr.rA = s.sr.rA ||| ev.setWidth 64 := by
  rw [sr_raise]
  split
  · exact ⟨eventI, rfl⟩
  · exact ⟨0, by simp⟩

theorem Written.keptMem (h : Written i s x u) (hs : mayStore i = false) : KeptMem s u := by
  cases h with
  | plain | product | quotient | linked | compared | got | spoken | tripped => intro a; simp [State.trip]
  | stored _ _ hi => nomatch hi.symm.trans hs

theorem Moved.keptMem (h : Moved i s u) (hs : mayStore i = false) : KeptMem s u := by
  cases h with
  | advanced | jumped | pushed | popped | put | putG | putL | unsaved | halted => exact fun _ => rfl
  | stored _ _ hi => nomatch hi.symm.trans hs

theorem Written.stack (h : Written i s x u) : u.stack = s.stack := by cases h <;> simp [State.trip]

/-- The register stack changes by the pushes and `POP` alone (10_state.md R31). -/
theorem Moved.stack (h : Moved i s u) (hpush : ¬IsPush i) (hpop : ∀ x yz, i ≠ .pop x yz) : u.stack = s.stack := by
  cases h with
  | advanced | jumped | stored | put | putG | putL | unsaved | halted => rfl
  | pushed _ _ hi => exact absurd hi hpush
  | popped x yz hi => exact absurd hi (hpop x yz)

/-- The output changes by `Fputs` alone (47_system.md R491). -/
theorem Written.out (h : Written i s x u) (ht : ∀ x y z, i ≠ .trap x y z) : u.out = s.out := by
  cases h with
  | plain | product | quotient | linked | stored | compared | got | tripped => simp [State.trip]
  | spoken _ _ _ hi => obtain ⟨a, z, hi⟩ := hi; exact absurd hi (ht a 7 z)

theorem Moved.out (h : Moved i s u) : u.out = s.out := by cases h <;> rfl

theorem Written.params (h : Written i s x u) : u.params = s.params := by cases h <;> simp [State.trip]

theorem Moved.params (h : Moved i s u) : u.params = s.params := by cases h <;> rfl

theorem Written.draws (h : Written i s x u) (hg : ∀ x y z, i ≠ .get x y z) (ht : ∀ x y z, i ≠ .trap x y z) :
    u.draws = s.draws := by
  cases h with
  | plain | product | quotient | linked | stored | compared | tripped => simp [State.trip]
  | got _ _ hi => obtain ⟨y, z, hi⟩ := hi; exact absurd hi (hg x y z)
  | spoken _ _ _ hi => obtain ⟨a, z, hi⟩ := hi; exact absurd hi (ht a 7 z)

theorem Moved.draws (h : Moved i s u) : u.draws = s.draws := by cases h <;> rfl

theorem Written.status (h : Written i s x u) : u.status = s.status := by cases h <;> simp [State.trip]

/-- Of the completed states only that of `Halt` has another status (60_exceptions.md R508). -/
theorem Moved.status (h : Moved i s u) : u.status = s.status ∨ ∃ x z, i = .trap x 0 z ∧ u.status = .halted z := by
  cases h with
  | advanced | jumped | stored | pushed | popped | put | putG | putL | unsaved => exact .inl rfl
  | halted z hi => obtain ⟨x, hi⟩ := hi; exact .inr ⟨x, z, hi, rfl⟩

/-- Without a transfer of control `pc` advances (10_state.md R27). -/
theorem Written.pc (h : Written i s x u) (ht : transfersControl (opcode i) = false) : u.pc = s.pc + 4 := by
  cases h with
  | plain | product | quotient | stored | compared | got | spoken => simp
  | linked _ hi => nomatch hi.symm.trans ht
  | tripped _ _ _ hi => rw [List.mem_singleton.1 hi] at ht; exact absurd ht (by decide)

theorem Moved.pc (h : Moved i s u) (ht : transfersControl (opcode i) = false) : u.pc = s.pc + 4 := by
  cases h with
  | advanced | stored | put | putG | putL | unsaved | halted => rfl
  | jumped _ hi => nomatch hi.symm.trans ht
  | pushed _ _ hi => nomatch hi.transfersControl.symm.trans ht
  | popped _ _ hi => subst hi; nomatch ht

/-! ### The special registers as `GET` reads them (R40) -/

/-- A special register that is neither rL nor a draw: it reads as before when its stored value, for rO the register stack
and for rG the value of G are as before. -/
theorem special_congr {s t : State} {r : SpecialReg} (hr : r ∉ [SpecialReg.rA, .rL, .rC, .rI, .rU])
    (hsr : (s.setSr t.sr).special r = s.special r) (hO : r = .rO → t.stack = s.stack) (hG : r = .rG → t.G = s.G) :
    t.special r = s.special r := by
  cases r with
  | rL | rC | rI | rU => simp at hr
  | rO => simp only [State.special, hO rfl]
  | rG => simp only [State.special, hG rfl]
  | rB | rD | rE | rH | rJ | rM | rR | rBB | rN | rS | rT | rTT | rK | rQ | rV | rA | rF | rP | rW | rX | rY | rZ | rWW
  | rXX | rYY | rZZ => exact hsr

/-- A special register that an instruction's opcode may not change is none of those that its rule names. -/
theorem not_mem_of_writers {r : SpecialReg} {ops : List Byte} {l : List SpecialReg} (ho : opcode i ∈ ops)
    (hl : ∀ q ∈ l, ∀ op ∈ ops, op ∈ writersOf q) (hw : opcode i ∉ writersOf r) : r ∉ l :=
  fun hr => hw (hl r hr _ ho)

variable {r : SpecialReg}

theorem setSr_self (s : State) : s.setSr s.sr = s := rfl

theorem special_with_rA (v : Word) (hr : r ∉ [SpecialReg.rA]) :
    (s.setSr { s.sr with rA := v }).special r = s.special r := by
  cases r <;> first | rfl | simp at hr

theorem special_with_rH (v : Word) (hr : r ∉ [SpecialReg.rH]) :
    (s.setSr { s.sr with rH := v }).special r = s.special r := by
  cases r <;> first | rfl | simp at hr

theorem special_with_rP (v : Word) (hr : r ∉ [SpecialReg.rP]) :
    (s.setSr { s.sr with rP := v }).special r = s.special r := by
  cases r <;> first | rfl | simp at hr

theorem special_with_rJ (v : Word) (hr : r ∉ [SpecialReg.rJ]) :
    (s.setSr { s.sr with rJ := v }).special r = s.special r := by
  cases r <;> first | rfl | simp at hr

theorem special_with_rR_rA (v w : Word) (hr : r ∉ [SpecialReg.rR, .rA]) :
    (s.setSr { s.sr with rR := v, rA := w }).special r = s.special r := by
  cases r <;> first | rfl | simp at hr

theorem special_with_trip (x y z b w : Word) (hr : r ∉ [SpecialReg.rX, .rY, .rZ, .rB, .rW]) :
    (s.setSr { s.sr with rX := x, rY := y, rZ := z, rB := b, rW := w }).special r = s.special r := by
  cases r <;> first | rfl | simp at hr

/-- What `PUT` may not write: rN, rO, rS and the privileged registers, which it keeps (47_system.md R477). -/
theorem special_of_put {q : Specials} (hr : r ∉ [SpecialReg.rA, .rL, .rC, .rI, .rU])
    (hi : opcode i ∈ [0xF6#8, 0xF7#8]) (hw : opcode i ∉ writersOf r) (hq : q.privileged = s.sr.privileged) :
    (s.setSr q).special r = s.special r := by
  simp only [Specials.privileged, List.cons.injEq] at hq
  obtain ⟨hT, hTT, hK, hQ, hV, -⟩ := hq
  cases r with
  | rN | rO | rS | rL | rG | rC | rI | rU => rfl
  | rT => exact hT
  | rTT => exact hTT
  | rK => exact hK
  | rQ => exact hQ
  | rV => exact hV
  | rA => simp at hr
  | rB | rD | rE | rH | rJ | rM | rR | rBB | rF | rP | rW | rX | rY | rZ | rWW | rXX | rYY | rZZ =>
    exact absurd ((by decide : ∀ op ∈ [0xF6#8, 0xF7#8], op ∈ writersOf _) _ hi) hw

/-- What `UNSAVE` may not write: rN, rO, rS and the registers that a saved context does not hold (47_system.md R482). -/
theorem special_of_unsave {q : Specials} (hr : r ∉ [SpecialReg.rA, .rL, .rC, .rI, .rU])
    (hi : opcode i ∈ [0xFB#8]) (hw : opcode i ∉ writersOf r) (hq : q.unsaved = s.sr.unsaved) :
    (s.setSr q).special r = s.special r := by
  simp only [Specials.unsaved, Specials.privileged, List.cons_append, List.nil_append, List.cons.injEq] at hq
  obtain ⟨hT, hTT, hK, hQ, hV, hBB, hF, hWW, hXX, hYY, hZZ, -⟩ := hq
  cases r with
  | rN | rO | rS | rL | rG | rC | rI | rU => rfl
  | rT => exact hT
  | rTT => exact hTT
  | rK => exact hK
  | rQ => exact hQ
  | rV => exact hV
  | rBB => exact hBB
  | rF => exact hF
  | rWW => exact hWW
  | rXX => exact hXX
  | rYY => exact hYY
  | rZZ => exact hZZ
  | rA => simp at hr
  | rB | rD | rE | rH | rJ | rM | rR | rP | rW | rX | rY | rZ =>
    exact absurd ((by decide : ∀ op ∈ [0xFB#8], op ∈ writersOf _) _ hi) hw

theorem Written.special (h : Written i s x u) (hr : r ∉ [SpecialReg.rA, .rL, .rC, .rI, .rU])
    (hw : opcode i ∉ writersOf r) : u.special r = s.special r := by
  have hG : u.G = s.G := by
    obtain ⟨v, hv⟩ := h.wroteReg
    exact hv.2.2.2
  have hA : r ∉ [SpecialReg.rA] := fun hm => hr (by simp_all)
  refine special_congr hr ?_ (fun _ => h.stack) (fun _ => hG)
  cases h with
  | plain v ev => simpa using special_with_rA _ hA
  | product v p hi => simpa using special_with_rH p (not_mem_of_writers hi (by decide) hw)
  | quotient v q ev hi =>
    have hR : r ∉ [SpecialReg.rR] := not_mem_of_writers hi (by decide) hw
    simpa using special_with_rR_rA q _ (by simp_all)
  | linked | got | stored | spoken => simp [setSr_self]
  | compared p v hi => simpa using special_with_rP p (not_mem_of_writers hi (by decide) hw)
  | tripped w y z hi => exact special_with_trip _ _ _ _ _ (not_mem_of_writers hi (by decide) hw)

theorem Moved.special (h : Moved i s u) (hr : r ∉ [SpecialReg.rA, .rL, .rC, .rI, .rU])
    (hw : opcode i ∉ writersOf r) : u.special r = s.special r := by
  cases h with
  | advanced | jumped | halted => exact special_congr hr rfl (fun _ => rfl) (fun _ => rfl)
  | stored m ev => exact special_congr hr (special_with_rA _ fun hm => hr (by simp_all)) (fun _ => rfl) (fun _ => rfl)
  | pushed x a hi =>
    have hJ : r ∉ [SpecialReg.rJ, .rO] := not_mem_of_writers hi.opcode_mem (by decide) hw
    exact special_congr hr (special_with_rJ _ (by simp_all)) (fun e => by simp [e] at hJ) (fun _ => rfl)
  | popped x yz hi =>
    subst hi
    have hO : r ∉ [SpecialReg.rO] := not_mem_of_writers (ops := [0xF8]) (.head _) (by decide) hw
    exact special_congr hr rfl (fun e => by simp [e] at hO) (fun _ => rfl)
  | put q hi hA hq => exact special_congr hr (special_of_put hr hi.opcode_mem hw hq) (fun _ => rfl) (fun _ => rfl)
  | putG g hi =>
    have hG : r ∉ [SpecialReg.rG] := not_mem_of_writers hi.opcode_mem (by decide) hw
    exact special_congr hr rfl (fun _ => rfl) (fun e => by simp [e] at hG)
  | putL => exact special_congr hr rfl (fun _ => rfl) (fun _ => rfl)
  | unsaved q g l hi hA hq =>
    obtain ⟨x, y, z, rfl⟩ := hi
    have hG : r ∉ [SpecialReg.rG] := not_mem_of_writers (ops := [0xFB]) (.head _) (by decide) hw
    exact special_congr hr (special_of_unsave hr (.head _) hw hq) (fun _ => rfl) (fun e => by simp [e] at hG)

theorem special_raise (f : FaultReason) (hr : r ∉ [SpecialReg.rA, .rL, .rC, .rI, .rU]) :
    (s.raise f).special r = s.special r := by
  refine special_congr hr ?_ (fun _ => stack_raise s f) (fun _ => G_raise s f)
  rw [sr_raise]
  split
  · exact special_with_rA _ fun hm => hr (by simp_all)
  · rfl

end Frames

/-! ### Every completed state keeps the invariant -/

/-- The reset memory lists nothing, S is empty and L is 0 (70_reset_and_hazards.md R544 to R547). -/
theorem reset_inv : State.reset.Inv where
  memory := reset_memory_wf
  aligned := by decide
  locals := Nat.zero_le _
  globals := by decide
  status := by decide
  calls := .empty
  ring := rfl

section Invariant

variable {i : Instr} {s u : State} {x : Byte}

/-! One rule per update of the state: what the new value owes to the invariant. -/

theorem State.Inv.setStatus (h : s.Inv) (v : Status) : (s.setStatus v).Inv :=
  ⟨h.memory, h.aligned, h.locals, h.globals, h.status, h.calls, h.ring⟩

theorem State.Inv.setPc (h : s.Inv) {a : Word} (ha : a.toNat % 4 = 0) : (s.setPc a).Inv :=
  ⟨h.memory, ha, h.locals, h.globals, h.status, h.calls, h.ring⟩

theorem State.Inv.advance (h : s.Inv) : s.advance.Inv := h.setPc (advance_mod_four h.aligned)

theorem State.Inv.setSr (h : s.Inv) {q : Specials} (hq : q.rA.toNat < 2 ^ 18) : (s.setSr q).Inv :=
  ⟨h.memory, h.aligned, h.locals, h.globals, hq, h.calls, h.ring⟩

theorem State.Inv.event (h : s.Inv) (ev : Byte) : (s.event ev).Inv := h.setSr (or_events_lt h.status ev)

theorem State.Inv.setMem (h : s.Inv) {m : Memory} (hm : m.wf) : (s.setMem m).Inv :=
  ⟨hm, h.aligned, h.locals, h.globals, h.status, h.calls, h.ring⟩

theorem State.Inv.setOut (h : s.Inv) (o : Outputs) : (s.setOut o).Inv :=
  ⟨h.memory, h.aligned, h.locals, h.globals, h.status, h.calls, h.ring⟩

theorem State.Inv.setDraws (h : s.Inv) (n : Nat) : (s.setDraws n).Inv :=
  ⟨h.memory, h.aligned, h.locals, h.globals, h.status, h.calls, h.ring⟩

theorem State.Inv.setFrame (h : s.Inv) {l : List Word} (hG : l.length ≤ s.G)
    (hr : s.ringAllows s.stack.length l.length = true) : (s.setFrame l).Inv :=
  ⟨h.memory, h.aligned, hG, h.globals, h.status, h.calls, hr⟩

theorem State.Inv.setGlob (h : s.Inv) {g : List Word} (hL : s.L ≤ 256 - g.length)
    (hg : 32 ≤ 256 - g.length ∧ 256 - g.length ≤ 255) : (s.setGlob g).Inv :=
  ⟨h.memory, h.aligned, hL, hg, h.status, h.calls, h.ring⟩

/-- A register write for which there is room (10_state.md R25, R33). -/
theorem State.Inv.setReg (h : s.Inv) (hroom : s.roomFor x = true) (v : Word) : (s.setReg x v).Inv where
  memory := by simpa using h.memory
  aligned := by simpa using h.aligned
  locals := by
    rw [L_setReg, G_setReg]
    split
    · exact (of_decide_eq_true ‹s.marginal x = true›).2
    · exact h.locals
  globals := by simpa using h.globals
  status := by simpa using h.status
  calls := by simpa using h.calls
  ring := by
    rw [ringAllows_congr (params_setReg x v s), stack_setReg, L_setReg]
    split
    · simpa [State.roomFor, ‹s.marginal x = true›] using hroom
    · exact h.ring

/-- Raising a fault sets at most the I bit of rA (60_exceptions.md R506). -/
theorem State.Inv.raise (h : s.Inv) (f : FaultReason) : (s.raise f).Inv := by
  unfold State.raise
  split
  · exact (h.event _).setStatus _
  · exact h.setStatus _

theorem Written.inv (hu : Written i s x u) (h : s.Inv) (hroom : s.roomFor x = true) : u.Inv := by
  have hw (v : Word) : (s.setReg x v).Inv := h.setReg hroom v
  cases hu with
  | plain v ev => exact ((hw v).event ev).advance
  | product v p => exact ((hw v).setSr (q := { s.sr with rH := p }) h.status).advance
  | quotient v q ev => exact (((hw v).setSr (q := { s.sr with rR := q }) h.status).event ev).advance
  | linked a => exact (hw _).setPc (alignTarget_mod_four a)
  | stored m v hi hm => exact ((h.setMem (hm h.memory)).setReg hroom v).advance
  | compared p v => exact ((h.setSr (q := { s.sr with rP := p }) h.status).setReg hroom v).advance
  | got v n => exact ((hw v).setDraws n).advance
  | spoken v o n => exact (((hw v).setOut o).setDraws n).advance
  | tripped w y z hi hx =>
    subst hx
    exact ((hw _).setSr (q := { s.sr with rX := _, rY := y, rZ := z, rB := _, rW := _ }) h.status).setPc
      (a := Config.tripHandler) (by decide)

/-! ### The register stack (45_control_transfer.md R400, R403) -/

theorem hole_le (h : s.Inv) (x : Byte) : s.hole x < 256 := by
  have := h.locals
  have := h.globals
  have := x.isLt
  unfold State.hole
  split <;> omega

/-- The pushed registers are as many as the hole says, so they are a complete segment. -/
theorem callStack_pushed (h : s.Inv) (x : Byte) (a : Word) : CallStack (s.pushed x a).stack := by
  have hlen : ((s.widened (s.hole x)).take (s.hole x)).length = s.hole x := by
    rw [State.widened, List.length_take, List.length_append, List.length_replicate, State.L_eq]
    omega
  have := CallStack.call s.stack _ h.calls (hlen.symm ▸ hole_le h x)
  rwa [hlen] at this

theorem L_pushed (x : Byte) (a : Word) : (s.pushed x a).L = s.L - (s.hole x + 1) := by
  show ((s.widened (s.hole x)).drop (s.hole x + 1)).length = s.frame.length - (s.hole x + 1)
  rw [State.widened, List.length_drop, List.length_append, List.length_replicate, State.L_eq]
  omega

theorem State.Inv.pushed (h : s.Inv) {a : Word} (ha : a.toNat % 4 = 0)
    (hr : s.ringAllows (s.pushed x a).stack.length (s.pushed x a).L = true) : (s.pushed x a).Inv where
  memory := h.memory
  aligned := ha
  locals := by
    rw [L_pushed]
    exact Nat.le_trans (Nat.sub_le _ _) h.locals
  globals := h.globals
  status := h.status
  calls := callStack_pushed h x a
  ring := hr

/-- A register stack that is not empty ends with a complete segment. -/
theorem CallStack.eq_segment {l : List Word} (h : CallStack l) (hl : l ≠ []) :
    ∃ below caller, CallStack below ∧ caller.length < 256 ∧
      l = below ++ caller ++ [BitVec.ofNat 64 caller.length] := by
  cases h with
  | empty => exact absurd rfl hl
  | call below caller hb hc => exact ⟨below, caller, hb, hc, rfl⟩

/-- With a complete segment on top, the hole is the number of its registers. -/
theorem topHole_of_segment {below caller : List Word} (hc : caller.length < 256)
    (hs : s.stack = below ++ caller ++ [BitVec.ofNat 64 caller.length]) : s.topHole = caller.length := by
  rw [State.topHole, hs, List.getLastD_concat, BitVec.toNat_ofNat]
  omega

/-- `POP` uncovers what lies below the top segment. -/
theorem stack_popped {below caller : List Word} (hc : caller.length < 256)
    (hs : s.stack = below ++ caller ++ [BitVec.ofNat 64 caller.length]) (x : Byte) (yz : Wyde) :
    (s.popped x yz).stack = below := by
  show s.stack.take (s.stack.length - (s.topHole + 1)) = below
  rw [topHole_of_segment hc hs, hs, List.append_assoc]
  simp

theorem L_popped_le (x : Byte) (yz : Wyde) : (s.popped x yz).L ≤ min (s.topHole + s.popCount x) s.G := by
  simp only [State.popped, L_setPc, L_setStack, L_setFrame, List.length_take]
  omega

theorem State.Inv.popped (h : s.Inv) (hs : s.stack ≠ []) (x : Byte) (yz : Wyde) : (s.popped x yz).Inv := by
  obtain ⟨below, caller, hb, hc, hs⟩ := h.calls.eq_segment hs
  have hstack : (s.popped x yz).stack = below := stack_popped hc hs x yz
  have hL : (s.popped x yz).L ≤ min (s.topHole + s.popCount x) s.G := L_popped_le x yz
  have hcount : s.popCount x ≤ s.L + 1 := by
    unfold State.popCount
    split <;> omega
  have hdepth : s.stack.length = below.length + caller.length + 1 := by simp [hs, Nat.add_assoc]
  have htop := topHole_of_segment hc hs
  exact
    { memory := h.memory
      aligned := alignTarget_mod_four _
      locals := Nat.le_trans hL (Nat.min_le_right _ _)
      globals := h.globals
      status := h.status
      calls := hstack.symm ▸ hb
      ring := by
        rw [hstack]
        exact ringAllows_mono (s := s) (by omega) h.ring }

/-- `PUT rG` leaves G at the value put (47_system.md R479). -/
theorem length_glob_setG (h : s.Inv) {g : Nat} (hg : g ≤ 255) : (s.setG g).glob.length = 256 - g := by
  have := h.globals
  have := State.G_eq s
  unfold State.setG
  split
  · simp only [glob_setGlob, List.length_append, List.length_replicate]
    omega
  · simp only [glob_setGlob, List.length_drop]
    omega

theorem State.Inv.setG (h : s.Inv) {g : Nat} (hg : 32 ≤ g ∧ g ≤ 255 ∧ s.L ≤ g) : (s.setG g).Inv := by
  obtain ⟨h32, h255, hL⟩ := hg
  have hlen := length_glob_setG h h255
  exact h.setGlob (hlen.symm ▸ by omega) (hlen.symm ▸ by omega)

theorem Moved.inv (hu : Moved i s u) (h : s.Inv) : u.Inv := by
  cases hu with
  | advanced => exact h.advance
  | jumped a hi ha => exact h.setPc (ha h.aligned)
  | stored m ev hi hm => exact ((h.setMem (hm h.memory)).event ev).advance
  | pushed x a hi ha hr => exact h.pushed (ha h.aligned) hr
  | popped x yz hi hs => exact h.popped hs x yz
  | put q hi hA hq => exact (h.setSr (hA.elim (fun e => e ▸ h.status) id)).advance
  | putG g hi hg => exact (h.setG hg).advance
  | putL n hi =>
    have hle : (s.frame.take n).length ≤ s.L := List.length_take_le' n s.frame
    exact (h.setFrame (Nat.le_trans hle h.locals) (ringAllows_mono (by omega) h.ring)).advance
  | unsaved q g l hi hA hq hg hl hr =>
    exact State.Inv.advance ⟨h.memory, h.aligned, hl, hg, hA, h.calls, hr⟩
  | halted z => exact (h.setStatus _).advance

end Invariant

/-! ### The obligations -/

/-- Settles O9: field by field, at reset. -/
theorem resetMeetsInvariant : Obligations.ResetMeetsInvariant := reset_inv

/-- Settles O11, by the three cases of the read. -/
theorem registerReadClasses : Obligations.RegisterReadClasses := by
  unfold Obligations.RegisterReadClasses
  intro s k hLG hglob
  have hk := k.isLt
  refine ⟨fun hG => ?_, fun hL => ?_, fun hL hG => ?_⟩
  · have hlt : k.toNat - s.G < s.glob.length := by
      have := State.G_eq s
      omega
    rw [reg_of_global hG, List.getD_eq_getElem _ _ hlt, List.getElem?_eq_getElem hlt]
  · have hlt : k.toNat < s.frame.length := hL
    rw [reg_of_lt (by omega), List.getD_eq_getElem _ _ hlt, List.getElem?_eq_getElem hlt]
  · exact reg_of_marginal (decide_eq_true ⟨hL, hG⟩)

/-- Settles O5: in Running every instruction answers a next state (`exec_next`); in the terminal statuses the model
stops. -/
theorem stepsExactlyWhenRunning : Obligations.StepsExactlyWhenRunning := by
  unfold Obligations.StepsExactlyWhenRunning
  intro s
  cases hs : s.status with
  | running =>
    refine iff_of_true ?_ rfl
    simp only [step, hs, execImplemented]
    split
    · exact exec_next _ s
    · exact ⟨_, rfl⟩
  | halted c => simp [step, hs]
  | faulted f => simp [step, hs]

/-- Settles O12, by the shapes of `exec`: a well-formed instruction with a destination is a guarded write. -/
theorem ringLimitForbidsWrite : Obligations.RingLimitForbidsWrite := by
  unfold Obligations.RingLimitForbidsWrite
  intro s i x n hd hwf hn hL hG hlimit
  have hm := exec_meaning i s
  generalize exec i s = r at hm ⊢
  cases hm with
  | written hd' hu =>
    obtain rfl := Option.some.inj (hd.symm.trans hd')
    rw [guardWrite_of_no_room (roomFor_eq_false hn hL hG hlimit)]
    exact faults_fails s _
  | moved hd' => cases hd.symm.trans hd'
  | faulted h =>
    obtain hd' | hwf' := h
    · cases hd.symm.trans hd'
    · cases hwf.symm.trans hwf'

/-- Settles O10, by the shapes of `exec`: every completed state and every fault keeps the invariant. -/
theorem stepKeepsInvariant : Obligations.StepKeepsInvariant := by
  unfold Obligations.StepKeepsInvariant
  intro s t h hstep
  have hexec : execImplemented (decode s.fetch) s = .next t := by
    cases hs : s.status with
    | running => simpa only [step, hs] using hstep
    | halted | faulted => simp only [step, hs] at hstep; cases hstep
  unfold execImplemented at hexec
  split at hexec
  · obtain ⟨x, -, hroom, hu⟩ | ⟨-, hu⟩ | ⟨f, rfl⟩ := exec_next_cases hexec
    · exact hu.inv h hroom
    · exact hu.inv h
    · exact h.raise f
  · cases hexec
    exact h.raise _

/-- Settles O13, by the shapes of `exec`. -/
theorem registersChangeOnlyByName : Obligations.RegistersChangeOnlyByName := by
  unfold Obligations.RegistersChangeOnlyByName
  intro s t i hwin hexec
  obtain ⟨x, hd, -, hu⟩ | ⟨-, hu⟩ | ⟨f, rfl⟩ := exec_next_cases hexec
  · obtain ⟨v, -, hother, hL, hG⟩ := hu.wroteReg
    refine ⟨fun k hk => hother k fun e => hk (e ▸ hd), hG, ?_⟩
    split at hL
    · exact .inr ⟨x, hd, ‹_›, hL⟩
    · exact .inl hL
  · obtain ⟨hreg, hL, hG⟩ := hu.keptRegs hwin
    exact ⟨fun k _ => hreg k, hG, .inl hL⟩
  · exact ⟨fun k _ => reg_raise s f k, G_raise s f, .inl (L_raise s f)⟩

/-- Settles O59, by the shapes of `exec`: each adds a set of event bits, perhaps none. -/
theorem eventsOnlyAccumulate : Obligations.EventsOnlyAccumulate := by
  unfold Obligations.EventsOnlyAccumulate
  intro s t i hi hexec
  obtain ⟨x, -, -, hu⟩ | ⟨-, hu⟩ | ⟨f, rfl⟩ := exec_next_cases hexec
  · exact hu.events
  · refine hu.events (fun hp => ?_) fun x y z => (hi x y z).2.2
    cases hp with
    | put x y z => exact (hi x y z).1 rfl
    | puti x y z => exact (hi x y z).2.1 rfl
  · exact events_raise f s

/-- Settles O60, by the shapes of `exec`: one frame lemma per kind of state. -/
theorem stateChangesOnlyByName : Obligations.StateChangesOnlyByName := by
  unfold Obligations.StateChangesOnlyByName
  intro s t i hexec
  obtain ⟨x, -, -, hu⟩ | ⟨-, hu⟩ | ⟨f, rfl⟩ := exec_next_cases hexec
  · refine ⟨hu.keptMem, fun _ => hu.stack, hu.out, fun r => hu.special, fun ht => .inl (hu.pc ht), fun c hs hc => ?_,
      hu.params, fun h => hu.draws (fun x y z => (h x y z).1) fun x y z => (h x y z).2⟩
    cases hs.symm.trans (hu.status.symm.trans hc)
  · refine ⟨hu.keptMem, fun h => hu.stack (fun hp => ?_) fun x yz => (h x 0 0 yz).2.2.2.2, fun _ => hu.out,
      fun r => hu.special, fun ht => .inl (hu.pc ht), fun c hs hc => ?_, hu.params, fun _ => hu.draws⟩
    · cases hp with
      | pushj x yz => exact (h x 0 0 yz).1 rfl
      | pushjb x yz => exact (h x 0 0 yz).2.1 rfl
      | pushgo x y z => exact (h x y z 0).2.2.1 rfl
      | pushgoi x y z => exact (h x y z 0).2.2.2.1 rfl
    · obtain hst | ⟨x, z, hi, hst⟩ := hu.status
      · cases hs.symm.trans (hst.symm.trans hc)
      · cases hst.symm.trans hc
        exact ⟨x, hi⟩
  · refine ⟨fun _ a => by rw [mem_raise], fun _ => stack_raise s f, fun _ => out_raise s f,
      fun r hr _ => special_raise f hr, fun _ => .inr ⟨pc_raise s f, f, rfl⟩, fun c _ hc => ?_, params_raise s f,
      fun _ => draws_raise s f⟩
    cases hc

end Sys2Proof.Machine
end

section
/-! The memory family (O6, O32, O33). Each store form is `storeX` of its datum and each load form is `writeX` of what it
makes of the bytes read (`StoresBytes`, `LoadsBytes`, one lemma per pair of forms); `roundTrips_of_forms` composes any
such store with any such load, whatever has happened in between. -/

namespace Sys2Proof.Machine

/-! ### Effective addresses (20_memory.md R85, R86, R89) -/

/-- Clearing the bits below the access size changes nothing: the alignment clears them anyway (R86, R89). -/
theorem effective_clear_low (n : Nat) (a : Word) :
    effective n (a &&& ~~~BitVec.ofNat 64 (n - 1)) = effective n a := by
  unfold effective
  rw [BitVec.and_assoc a, BitVec.and_comm (~~~_), ← BitVec.and_assoc a, BitVec.and_assoc, BitVec.and_self]

/-- Flipping bit 63 changes nothing: translation zeroes it (R85). -/
theorem effective_flip_top (n : Nat) (a : Word) : effective n (a ^^^ 0x8000000000000000#64) = effective n a := by
  have htranslate : (a ^^^ 0x8000000000000000#64) &&& 0x7FFFFFFFFFFFFFFF#64 = a &&& 0x7FFFFFFFFFFFFFFF#64 := by
    apply BitVec.eq_of_toNat_eq
    have htop : (0x8000000000000000#64 : Word).toNat &&& (0x7FFFFFFFFFFFFFFF#64 : Word).toNat = 0 := by decide
    rw [BitVec.toNat_and, BitVec.toNat_xor, Nat.and_xor_distrib_right, htop, Nat.xor_zero, BitVec.toNat_and]
  rw [effective, htranslate, effective]

/-! ### Bytes that stay as a store left them (43_load_store.md R345) -/

/-- A load sees only the bytes of its access. -/
theorem Memory.load_congr {m m' : Memory} {n : Nat} {a : Word}
    (h : ∀ k < n, m.read (effective n a + k) = m'.read (effective n a + k)) : m.load n a = m'.load n a :=
  Memory.readN_congr h

/-- In any memory that still holds the stored bytes, a load of the stored width returns the low bytes of the datum. -/
theorem Memory.load_of_stored {m m' : Memory} (hm : m.wf) {n : Nat} (hn : AccessSize n) (a v : Word)
    (h : ∀ k < n, m'.read (effective n a + k) = (m.store n a v).read (effective n a + k)) :
    m'.load n a = v.toNat % 256 ^ n := by
  rw [Memory.load_congr h, Memory.load_store hm hn]

theorem pow_256_eq (n : Nat) : 256 ^ n = 2 ^ (8 * n) := by rw [Nat.pow_mul]

/-- What a zero-extending load makes of the low `n` bytes of `v`. -/
theorem loadUnsigned_of_load {u : State} {n : Nat} {a v : Word} (h : u.mem.load n a = v.toNat % 256 ^ n) :
    u.loadUnsigned n a = (v.setWidth (8 * n)).setWidth 64 := by
  rw [State.loadUnsigned, h, pow_256_eq, ← BitVec.toNat_setWidth, BitVec.ofNat_toNat]

/-- What a sign-extending load makes of the low `n` bytes of `v`. -/
theorem loadSigned_of_load {u : State} {n : Nat} {a v : Word} (h : u.mem.load n a = v.toNat % 256 ^ n) :
    u.loadSigned n a = (v.setWidth (8 * n)).signExtend 64 := by
  rw [State.loadSigned, h, pow_256_eq, ← BitVec.toNat_setWidth, BitVec.ofNat_toNat, BitVec.setWidth_eq]

/-- A whole octa is its own extension. -/
theorem loadUnsigned_octa_of_load {u : State} {a v : Word} (h : u.mem.load 8 a = v.toNat % 256 ^ 8) :
    u.loadUnsigned 8 a = v := by
  rw [loadUnsigned_of_load h, BitVec.setWidth_eq, BitVec.setWidth_eq]

/-! ### The placing of a word (assumption 6) -/

@[simp] theorem mem_withFetchWord (s : State) (nbits w : Nat) :
    (s.withFetchWord nbits w).mem = s.mem.store 4 s.pc (BitVec.ofNat 64 w) := rfl

@[simp] theorem pc_withFetchWord (s : State) (nbits w : Nat) : (s.withFetchWord nbits w).pc = s.pc := rfl

/-- The fetch is the load of the four bytes placed (20_memory.md R90). -/
theorem fetch_withFetchWord {s : State} (hm : s.mem.wf) (nbits w : Nat) :
    (s.withFetchWord nbits w).fetch = BitVec.ofNat 32 w := by
  apply BitVec.eq_of_toNat_eq
  rw [State.fetch, mem_withFetchWord, pc_withFetchWord, Memory.load_store hm (.inr (.inr (.inl rfl)))]
  simp only [BitVec.toNat_ofNat]
  omega

/-! ### The store forms -/

/-- Both forms are the store of `n` bytes of the datum, with the events `ev`. -/
def StoresBytes (n : Nat) (st : StoreForms) (ev : State → Byte → Byte) : Prop :=
  ∀ (s : State) (x y z : Byte),
    exec (st.1 x y z) s = s.storeX n (s.reg y + s.reg z) (st.2.2 s x) (ev s x) ∧
    exec (st.2.1 x y z) s = s.storeX n (s.reg y + z.setWidth 64) (st.2.2 s x) (ev s x)

theorem storesBytes_stb :
    StoresBytes 1 (.stb, .stbi, fun s x => s.reg x) (fun s x => storeOverflowEvent 1 (s.reg x)) :=
  fun _ _ _ _ => ⟨rfl, rfl⟩

theorem storesBytes_stbu : StoresBytes 1 (.stbu, .stbui, fun s x => s.reg x) (fun _ _ => 0) :=
  fun _ _ _ _ => ⟨rfl, rfl⟩

theorem storesBytes_stw :
    StoresBytes 2 (.stw, .stwi, fun s x => s.reg x) (fun s x => storeOverflowEvent 2 (s.reg x)) :=
  fun _ _ _ _ => ⟨rfl, rfl⟩

theorem storesBytes_stwu : StoresBytes 2 (.stwu, .stwui, fun s x => s.reg x) (fun _ _ => 0) :=
  fun _ _ _ _ => ⟨rfl, rfl⟩

theorem storesBytes_stt :
    StoresBytes 4 (.stt, .stti, fun s x => s.reg x) (fun s x => storeOverflowEvent 4 (s.reg x)) :=
  fun _ _ _ _ => ⟨rfl, rfl⟩

theorem storesBytes_sttu : StoresBytes 4 (.sttu, .sttui, fun s x => s.reg x) (fun _ _ => 0) :=
  fun _ _ _ _ => ⟨rfl, rfl⟩

/-- The high tetra of a word, as `STHT` shifts it down (R342). -/
theorem ushiftRight_32_eq_extract (v : Word) : v >>> 32 = (v.extractLsb' 32 32).setWidth 64 := by
  apply BitVec.eq_of_toNat_eq
  have := v.isLt
  rw [BitVec.toNat_ushiftRight, BitVec.toNat_setWidth, BitVec.extractLsb'_toNat, Nat.shiftRight_eq_div_pow]
  omega

theorem storesBytes_stht :
    StoresBytes 4 (.stht, .sthti, fun s x => ((s.reg x).extractLsb' 32 32).setWidth 64) (fun _ _ => 0) := by
  simp only [← ushiftRight_32_eq_extract]
  exact fun _ _ _ _ => ⟨rfl, rfl⟩

theorem storesBytes_stsf :
    StoresBytes 4 (.stsf, .stsfi, fun s x => (storeSf s.params s.modeRA (s.reg x)).1.setWidth 64)
      (fun s x => (storeSf s.params s.modeRA (s.reg x)).2) :=
  fun _ _ _ _ => ⟨rfl, rfl⟩

theorem storesBytes_sto : StoresBytes 8 (.sto, .stoi, fun s x => s.reg x) (fun _ _ => 0) :=
  fun _ _ _ _ => ⟨rfl, rfl⟩

theorem storesBytes_stou : StoresBytes 8 (.stou, .stoui, fun s x => s.reg x) (fun _ _ => 0) :=
  fun _ _ _ _ => ⟨rfl, rfl⟩

theorem storesBytes_stunc : StoresBytes 8 (.stunc, .stunci, fun s x => s.reg x) (fun _ _ => 0) :=
  fun _ _ _ _ => ⟨rfl, rfl⟩

theorem storesBytes_stco : StoresBytes 8 (.stco, .stcoi, fun _ x => x.setWidth 64) (fun _ _ => 0) :=
  fun _ _ _ _ => ⟨rfl, rfl⟩

/-- Either form, as the statements about a store name its instruction and its address. -/
theorem StoresBytes.exec_eq {n : Nat} {st : StoreForms} {ev : State → Byte → Byte} (h : StoresBytes n st ev) {s : State}
    {x y z : Byte} {i : Instr} {a : Word}
    (hi : i = st.1 x y z ∧ a = s.reg y + s.reg z ∨ i = st.2.1 x y z ∧ a = s.reg y + z.setWidth 64) :
    exec i s = s.storeX n a (st.2.2 s x) (ev s x) := by
  obtain ⟨hreg, himm⟩ := h s x y z
  obtain ⟨rfl, rfl⟩ | ⟨rfl, rfl⟩ := hi
  · exact hreg
  · exact himm

/-! ### The load forms -/

/-- Where the access reads the low `n` bytes of `v`, both forms write what the load makes of `v`. -/
def LoadsBytes (n : Nat) (ld : LoadForms) : Prop :=
  ∀ (u : State) (b p q : Byte) (v : Word),
    (u.mem.load n (u.reg p + u.reg q) = v.toNat % 256 ^ n → exec (ld.1 b p q) u = u.writeX b (ld.2.2 v) 0) ∧
    (u.mem.load n (u.reg p + q.setWidth 64) = v.toNat % 256 ^ n → exec (ld.2.1 b p q) u = u.writeX b (ld.2.2 v) 0)

/-- A pair of forms that writes `value u a`, for the sum `a` of its operands, is known by what `value` reads. -/
theorem LoadsBytes.of_value {n : Nat} {ld : LoadForms} (value : State → Word → Word)
    (hreg : ∀ u b p q, exec (ld.1 b p q) u = u.writeX b (value u (u.reg p + u.reg q)) 0)
    (himm : ∀ u b p q, exec (ld.2.1 b p q) u = u.writeX b (value u (u.reg p + q.setWidth 64)) 0)
    (hvalue : ∀ u a v, u.mem.load n a = v.toNat % 256 ^ n → value u a = ld.2.2 v) : LoadsBytes n ld := by
  intro u b p q v
  refine ⟨fun h => ?_, fun h => ?_⟩
  · rw [hreg, hvalue u _ v h]
  · rw [himm, hvalue u _ v h]

theorem loadsBytes_ldb : LoadsBytes 1 (.ldb, .ldbi, fun v => (v.setWidth 8).signExtend 64) :=
  .of_value (fun u a => u.loadSigned 1 a) (fun _ _ _ _ => rfl) (fun _ _ _ _ => rfl) fun _ _ _ => loadSigned_of_load

theorem loadsBytes_ldbu : LoadsBytes 1 (.ldbu, .ldbui, fun v => (v.setWidth 8).setWidth 64) :=
  .of_value (fun u a => u.loadUnsigned 1 a) (fun _ _ _ _ => rfl) (fun _ _ _ _ => rfl) fun _ _ _ => loadUnsigned_of_load

theorem loadsBytes_ldw : LoadsBytes 2 (.ldw, .ldwi, fun v => (v.setWidth 16).signExtend 64) :=
  .of_value (fun u a => u.loadSigned 2 a) (fun _ _ _ _ => rfl) (fun _ _ _ _ => rfl) fun _ _ _ => loadSigned_of_load

theorem loadsBytes_ldwu : LoadsBytes 2 (.ldwu, .ldwui, fun v => (v.setWidth 16).setWidth 64) :=
  .of_value (fun u a => u.loadUnsigned 2 a) (fun _ _ _ _ => rfl) (fun _ _ _ _ => rfl) fun _ _ _ => loadUnsigned_of_load

theorem loadsBytes_ldt : LoadsBytes 4 (.ldt, .ldti, fun v => (v.setWidth 32).signExtend 64) :=
  .of_value (fun u a => u.loadSigned 4 a) (fun _ _ _ _ => rfl) (fun _ _ _ _ => rfl) fun _ _ _ => loadSigned_of_load

theorem loadsBytes_ldtu : LoadsBytes 4 (.ldtu, .ldtui, fun v => (v.setWidth 32).setWidth 64) :=
  .of_value (fun u a => u.loadUnsigned 4 a) (fun _ _ _ _ => rfl) (fun _ _ _ _ => rfl) fun _ _ _ => loadUnsigned_of_load

theorem loadsBytes_ldo : LoadsBytes 8 (.ldo, .ldoi, id) :=
  .of_value (fun u a => u.loadUnsigned 8 a) (fun _ _ _ _ => rfl) (fun _ _ _ _ => rfl)
    fun _ _ _ => loadUnsigned_octa_of_load

theorem loadsBytes_ldou : LoadsBytes 8 (.ldou, .ldoui, id) :=
  .of_value (fun u a => u.loadUnsigned 8 a) (fun _ _ _ _ => rfl) (fun _ _ _ _ => rfl)
    fun _ _ _ => loadUnsigned_octa_of_load

theorem loadsBytes_ldunc : LoadsBytes 8 (.ldunc, .ldunci, id) :=
  .of_value (fun u a => u.loadUnsigned 8 a) (fun _ _ _ _ => rfl) (fun _ _ _ _ => rfl)
    fun _ _ _ => loadUnsigned_octa_of_load

/-- Either form, as the statements about a load name its instruction and its address. -/
theorem LoadsBytes.exec_eq {n : Nat} {ld : LoadForms} (h : LoadsBytes n ld) {u : State} {b p q : Byte} {j : Instr}
    {a v : Word} (hload : u.mem.load n a = v.toNat % 256 ^ n)
    (hj : j = ld.1 b p q ∧ u.reg p + u.reg q = a ∨ j = ld.2.1 b p q ∧ u.reg p + q.setWidth 64 = a) :
    exec j u = u.writeX b (ld.2.2 v) 0 := by
  obtain ⟨hreg, himm⟩ := h u b p q v
  obtain ⟨rfl, rfl⟩ | ⟨rfl, rfl⟩ := hj
  · exact hreg hload
  · exact himm hload

/-- Any store of `n` bytes followed, however much later, by any load of them: the load reads back the low bytes of the
datum (`Memory.load_of_stored`), and writes what it makes of them. -/
theorem roundTrips_of_forms {n : Nat} (hn : AccessSize n) {stores : List StoreForms} {loads : List LoadForms}
    (hstores : ∀ st ∈ stores, ∃ ev, StoresBytes n st ev) (hloads : ∀ ld ∈ loads, LoadsBytes n ld) :
    RoundTrips n stores loads := by
  intro st hst ld hld s x y z hm i a hi
  obtain ⟨ev, hstore⟩ := hstores st hst
  refine ⟨_, hstore.exec_eq hi, fun u b p q hroom hkept j hj => ?_⟩
  have hload : u.mem.load n a = (st.2.2 s x).toNat % 256 ^ n := Memory.load_of_stored hm hn a _ hkept
  rw [(hloads ld hld).exec_eq hload hj]
  exact computes_writeX_zero hroom _

/-! ### The obligations -/

/-- Settles O33: the arithmetic form, the two kinds of bits the access drops, and its bound. -/
theorem implicitAlignment : Obligations.ImplicitAlignment := by
  unfold Obligations.ImplicitAlignment
  intro n a hn
  exact ⟨effective_eq hn a, effective_clear_low n a, effective_flip_top n a, effective_add_le hn a⟩

/-- Settles O6: placing a word is a store of four bytes at `pc`, which the fetch loads. -/
theorem placedWordIsFetched : Obligations.PlacedWordIsFetched := by
  unfold Obligations.PlacedWordIsFetched
  intro s nbits w hm
  obtain ⟨-, hother⟩ := wroteMem_store hm (.inr (.inr (.inl rfl))) s.pc _ (mem_withFetchWord s nbits w)
  exact ⟨fetch_withFetchWord hm nbits w, hother, rfl⟩

/-- Settles O32, width by width, by `roundTrips_of_forms`. -/
theorem storeLoadRoundTrip : Obligations.StoreLoadRoundTrip := by
  unfold Obligations.StoreLoadRoundTrip
  refine ⟨roundTrips_of_forms (.inl rfl) ?_ ?_, roundTrips_of_forms (.inr (.inl rfl)) ?_ ?_,
    roundTrips_of_forms (.inr (.inr (.inl rfl))) ?_ ?_, roundTrips_of_forms (.inr (.inr (.inr rfl))) ?_ ?_⟩ <;>
    simp only [List.forall_mem_cons, List.not_mem_nil, false_imp_iff, implies_true, and_true]
  · exact ⟨⟨_, storesBytes_stb⟩, ⟨_, storesBytes_stbu⟩⟩
  · exact ⟨loadsBytes_ldb, loadsBytes_ldbu⟩
  · exact ⟨⟨_, storesBytes_stw⟩, ⟨_, storesBytes_stwu⟩⟩
  · exact ⟨loadsBytes_ldw, loadsBytes_ldwu⟩
  · exact ⟨⟨_, storesBytes_stt⟩, ⟨_, storesBytes_sttu⟩, ⟨_, storesBytes_stht⟩, ⟨_, storesBytes_stsf⟩⟩
  · exact ⟨loadsBytes_ldt, loadsBytes_ldtu⟩
  · exact ⟨⟨_, storesBytes_sto⟩, ⟨_, storesBytes_stou⟩, ⟨_, storesBytes_stunc⟩, ⟨_, storesBytes_stco⟩⟩
  · exact ⟨loadsBytes_ldo, loadsBytes_ldou, loadsBytes_ldunc⟩

end Sys2Proof.Machine
end

section
/-! The encoding family (O1 to O4, O52). `RowForm` says how a row of the opcode map lays out its operands: three bytes, a
byte and a wyde, one field of 24 bits, or none for a hint. `rowForm` goes through the 256 rows once; decoding the encoder's
word and encoding the decoded word are then both proofs over the four forms. -/

namespace Sys2Proof

/-! ### Fields put together -/

theorem byte_append_wyde (x y z : Byte) : (x ++ (y ++ z : Wyde) : BitVec 24) = x ++ y ++ z := by
  apply BitVec.eq_of_toNat_eq
  rw [toNat_append_three, BitVec.toNat_append, ← Nat.shiftLeft_add_eq_or_of_lt (y ++ z).isLt, BitVec.toNat_append,
    ← Nat.shiftLeft_add_eq_or_of_lt z.isLt]
  simp only [Nat.shiftLeft_eq]
  omega

/-- OP of the encoder's word (30_encoding.md R121). -/
@[simp] theorem wordOp_encode (i : Instr) : wordOp (encode i) = opcode i := wordOp_append _ _

/-! ### The forms of the rows (30_encoding.md R122) -/

/-- The opcodes of the fourteen hints (47_system.md R470). -/
def hintOpcodes : List Byte :=
  [0x98#8, 0x99#8, 0x9A#8, 0x9B#8, 0x9C#8, 0x9D#8, 0xB8#8, 0xB9#8, 0xBA#8, 0xBB#8, 0xBC#8, 0xBD#8, 0xFC#8, 0xFD#8]

/-- The row of the opcode map under `op`, from an instruction `i` of it: what the map reads from every operand, and what
the encoder writes for it. -/
inductive RowForm (op : Byte) : Instr → Prop
  | bytes (row : Byte → Byte → Byte → Instr) (x y z : Byte) (hmap : ∀ a b c, opcodeMap op a b c = row a b c)
      (henc : ∀ a b c, encode (row a b c) = op ++ (a ++ b ++ c)) : RowForm op (row x y z)
  | wyde (row : Byte → Wyde → Instr) (x : Byte) (yz : Wyde) (hmap : ∀ a b c, opcodeMap op a b c = row a (b ++ c))
      (henc : ∀ a bc, encode (row a bc) = op ++ (a ++ bc : BitVec 24)) : RowForm op (row x yz)
  | field24 (row : BitVec 24 → Instr) (xyz : BitVec 24) (hmap : ∀ a b c, opcodeMap op a b c = row (a ++ b ++ c))
      (henc : ∀ abc, encode (row abc) = op ++ abc) : RowForm op (row xyz)
  | hint (i : Instr) (hmem : op ∈ hintOpcodes) (hmap : ∀ a b c, opcodeMap op a b c = i) (hop : opcode i = op) :
      RowForm op i

/-- The form of every row of the opcode map (R135). -/
theorem rowForm (i : Instr) : RowForm (opcode i) i := by
  cases i with dsimp only [opcode]
  | ldvts | ldvtsi | preld | preldi | prego | pregoi | syncd | syncdi | prest | presti | syncid | syncidi | sync |
  swym =>
    exact .hint _ (by decide) (fun _ _ _ => rfl) rfl
  | jmp | jmpb => exact .field24 _ _ (fun _ _ _ => rfl) fun _ => rfl
  | bn | bnb | bz | bzb | bp | bpb | bod | bodb | bnn | bnnb | bnz | bnzb | bnp | bnpb | bev | bevb | pbn | pbnb |
  pbz | pbzb | pbp | pbpb | pbod | pbodb | pbnn | pbnnb | pbnz | pbnzb | pbnp | pbnpb | pbev | pbevb | seth | setmh |
  setml | setl | inch | incmh | incml | incl | orh | ormh | orml | orl | andnh | andnmh | andnml | andnl | pushj |
  pushjb | geta | getab | pop =>
    exact .wyde _ _ _ (fun _ _ _ => rfl) fun _ _ => rfl
  | _ => exact .bytes _ _ _ _ (fun _ _ _ => rfl) fun _ _ _ => rfl

/-- Every opcode is that of a row (R129). -/
theorem opcode_surjective : Function.Surjective opcode := by
  have hrow : ∀ op : Byte, opcode (opcodeMap op 0 0 0) = op := by decide
  exact fun op => ⟨_, hrow op⟩

/-- The decoder after the encoder. -/
theorem decode_encode (i : Instr) : decode (encode i) = i := by
  have hform := rowForm i
  generalize hop : opcode i = op at hform
  cases hform with
  | bytes row x y z hmap henc => rw [henc, decode_word_bytes, hmap]
  | wyde row x yz hmap henc => rw [henc, decode_word_wyde, hmap, ← wyde_split]
  | field24 row xyz hmap henc => rw [henc, decode_word_field24, hmap, ← field24_split]
  | hint i hmem hmap => rw [encode, hop, decode_word_field24, hmap]

/-- The encoder after the decoder: the word itself, or a hint under the word's OP. -/
theorem encode_decode (w : Tetra) :
    encode (decode w) = w ∨ wordOp w ∈ hintOpcodes ∧ opcode (decode w) = wordOp w := by
  obtain ⟨i, hi⟩ := opcode_surjective (wordOp w)
  have hform := rowForm i
  have hw := word_eq_fields w
  rw [decode]
  rw [hi] at hform
  cases hform with
  | bytes row x y z hmap henc => exact .inl (by rw [hmap, henc, ← hw])
  | wyde row x yz hmap henc => exact .inl (by rw [hmap, henc, byte_append_wyde, ← hw])
  | field24 row xyz hmap henc => exact .inl (by rw [hmap, henc, ← hw])
  | hint i hmem hmap hop => exact .inr ⟨hmem, by rw [hmap, hop]⟩

/-- A word decodes by OP alone (R129). -/
@[simp] theorem opcode_decode (w : Tetra) : opcode (decode w) = wordOp w := by
  obtain hw | ⟨-, hop⟩ := encode_decode w
  · rw [← wordOp_encode, hw]
  · exact hop

end Sys2Proof

namespace Sys2Proof.Machine

section Rules

variable {s : State}

/-! ### The fetched word (20_memory.md R82, R90) -/

theorem toNat_wydeIn (m : Memory) (a : Nat) : (wydeIn m a).toNat = m.readN a 2 := by
  rw [wydeIn, BitVec.toNat_append, ← Nat.shiftLeft_add_eq_or_of_lt (m.read (a + 1)).isLt, Nat.shiftLeft_eq]
  simp only [Memory.readN, Nat.zero_mul, Nat.zero_add, Nat.add_zero]

theorem toNat_tetraIn (m : Memory) (a : Nat) : (tetraIn m a).toNat = m.readN a 4 := by
  rw [tetraIn, BitVec.toNat_append, ← Nat.shiftLeft_add_eq_or_of_lt (wydeIn m (a + 2)).isLt, Nat.shiftLeft_eq,
    toNat_wydeIn, toNat_wydeIn]
  simp only [Memory.readN, Nat.add_assoc, Nat.reduceAdd]
  omega

/-- The fetch reads the four bytes at `pc` as one tetra. -/
theorem fetch_eq_tetraIn (s : State) : s.fetch = tetraIn s.mem (effective 4 s.pc) := by
  rw [State.fetch, Memory.load, ← toNat_tetraIn, BitVec.ofNat_toNat, BitVec.setWidth_eq]

theorem implements_eq_true {i : Instr} : s.implements i = true ↔ opcode i ∉ s.params.notImplemented := by
  simp [State.implements]

theorem step_of_running (h : s.status = .running) : step s = execImplemented (decode s.fetch) s := by
  rw [step, h]

/-! ### Illegal fields and values (30_encoding.md R127, R128, R130) -/

theorem faults_of_eq {f : FaultReason} {r : Result} (h : r = s.fails f) : Faults s f r := h ▸ faults_fails s f

theorem modeY_eq_none {y : Byte} (h : 5 ≤ y.toNat) : s.modeY y = none := by
  unfold State.modeY
  split
  case h_6 => rfl
  all_goals omega

theorem roundedX_illegal {y : Byte} (h : 5 ≤ y.toNat) (x : Byte) (op : Rounding → Word × Byte) :
    s.roundedX x y op = s.fails .illegalInstruction := by
  rw [State.roundedX, modeY_eq_none h]

/-- A number of 32 and more names no special register (R128). -/
theorem specialOf_eq_none : ∀ {n : Byte}, 32 ≤ n.toNat → specialOf n = none := by decide

/-- The special registers that cannot be written at all, by their numbers (10_state.md R40). -/
theorem specialOf_readOnly :
    ∀ {n : Byte}, 9 ≤ n.toNat ∧ n.toNat ≤ 11 → ∃ r ∈ [SpecialReg.rN, .rO, .rS], specialOf n = some r := by decide

/-- The privileged special registers, by their numbers (R40). -/
theorem specialOf_privileged :
    ∀ {n : Byte}, n = 8#8 ∨ 12 ≤ n.toNat ∧ n.toNat ≤ 18 →
      ∃ r ∈ [SpecialReg.rC, .rI, .rT, .rTT, .rK, .rQ, .rU, .rV], specialOf n = some r := by decide

/-- `GET` of a bad field (R128, 47_system.md R476). -/
theorem getSpecial_illegal {y z : Byte} (h : y ≠ 0 ∨ 32 ≤ z.toNat) (x : Byte) :
    s.getSpecial x y z = s.fails .illegalInstruction := by
  obtain ⟨u, hu⟩ := exec_next (.get x y z) s
  obtain ⟨r, hz, hy, -⟩ | ⟨-, rfl⟩ := getSpecial_cases hu
  · have h32 := h.resolve_left fun hne => hne hy
    nomatch (specialOf_eq_none h32).symm.trans hz
  · exact hu

/-- `PUT` of a bad field (R128, R477). -/
theorem putNumbered_of_bad_field {x y : Byte} (h : specialOf x = none ∨ y ≠ 0) (v : Word) :
    s.putNumbered x y v = s.fails .illegalInstruction := by
  unfold State.putNumbered
  split
  · rename_i hx
    exact if_neg (h.resolve_left fun hnone => nomatch hnone.symm.trans hx)
  · rfl

theorem putNumbered_of_some {x : Byte} {r : SpecialReg} (h : specialOf x = some r) (v : Word) :
    s.putNumbered x 0 v = s.putSpecial r v := by
  rw [State.putNumbered, h]
  exact if_pos rfl

theorem putSpecial_readOnly {r : SpecialReg} (h : r ∈ [SpecialReg.rN, .rO, .rS]) (v : Word) :
    s.putSpecial r v = s.fails .illegalInstruction := by
  fin_cases h <;> rfl

theorem putSpecial_privileged {r : SpecialReg} (h : r ∈ [SpecialReg.rC, .rI, .rT, .rTT, .rK, .rQ, .rU, .rV])
    (v : Word) : s.putSpecial r v = s.fails .privileged := by
  fin_cases h <;> rfl

/-- The fields and values that `PUT` refuses as illegal (R477-R479). -/
theorem putNumbered_illegal {x y : Byte} {v : Word}
    (h : y ≠ 0 ∨ 32 ≤ x.toNat ∨ 9 ≤ x.toNat ∧ x.toNat ≤ 11 ∨ x = 21#8 ∧ 2 ^ 18 ≤ v.toNat ∨
      x = 19#8 ∧ (v.toNat < 32 ∨ 255 < v.toNat ∨ v.toNat < s.L)) :
    s.putNumbered x y v = s.fails .illegalInstruction := by
  by_cases hy : y = 0
  · subst hy
    obtain hne | hx | hx | ⟨rfl, hv⟩ | ⟨rfl, hv⟩ := h
    · exact absurd rfl hne
    · exact putNumbered_of_bad_field (.inl (specialOf_eq_none hx)) v
    · obtain ⟨r, hr, hof⟩ := specialOf_readOnly hx
      rw [putNumbered_of_some hof, putSpecial_readOnly hr]
    · rw [putNumbered_of_some (r := .rA) rfl]
      exact if_neg (Nat.not_lt.2 hv)
    · rw [putNumbered_of_some (r := .rG) rfl]
      exact if_pos hv
  · exact putNumbered_of_bad_field (.inr hy) v

/-- The registers that `PUT` refuses as privileged (R477). -/
theorem putNumbered_privileged {x : Byte} (h : x = 8#8 ∨ 12 ≤ x.toNat ∧ x.toNat ≤ 18) (v : Word) :
    s.putNumbered x 0 v = s.fails .privileged := by
  obtain ⟨r, hr, hof⟩ := specialOf_privileged h
  rw [putNumbered_of_some hof, putSpecial_privileged hr]

/-- Both forms of `PUT`, as the statements name the instruction and its value. -/
theorem exec_put_forms {x y z : Byte} {i : Instr} {v : Word}
    (hi : i = .put x y z ∧ v = s.reg z ∨ i = .puti x y z ∧ v = z.setWidth 64) : exec i s = s.putNumbered x y v := by
  obtain ⟨rfl, rfl⟩ | ⟨rfl, rfl⟩ := hi
  · rfl
  · rfl

/-- `RESUME` of 2 and more (R495). -/
theorem execResume_illegal {z : Byte} (h : 2 ≤ z.toNat) (x y : Byte) :
    execResume x y z s = s.fails .illegalInstruction := by
  rw [execResume, if_neg (by omega), if_pos h]

/-- `RESUME 0` with nothing to resume (R495). -/
theorem execResume_unimplemented (h : s.sr.rX.msb = false) (x y : Byte) :
    execResume x y 0 s = s.fails .unimplemented := by
  rw [execResume, if_neg (by decide), if_neg (by decide), State.resume, h]
  rfl

/-- A service that is neither `Halt` nor `Fputs` (R493). -/
theorem execTrap_unhandled {y : Byte} (h0 : y ≠ 0) (h7 : y ≠ 7#8) (x z : Byte) :
    execTrap x y z s = s.fails .unhandledTrap := by
  unfold execTrap
  split
  · exact absurd (BitVec.eq_of_toNat_eq ‹y.toNat = 0›) h0
  · exact absurd (BitVec.eq_of_toNat_eq ‹y.toNat = 7›) h7
  · rfl

end Rules

/-! ### The obligations -/

/-- Settles O1, by the form of the instruction's row. -/
theorem decodeOfEncode : Obligations.DecodeOfEncode := decode_encode

/-- Settles O2: only the row of a hint does not give its word back. -/
theorem encodeOfDecode : Obligations.EncodeOfDecode := by
  unfold Obligations.EncodeOfDecode
  exact fun w => ⟨opcode_decode w, fun hw => (encode_decode w).resolve_right fun h => hw h.1⟩

/-- Settles O52, field by field: each shared operation with its fault. -/
theorem illegalFieldsFault : Obligations.IllegalFieldsFault := by
  unfold Obligations.IllegalFieldsFault
  intro s x y z
  refine ⟨fun hy => ?_, fun h => faults_of_eq (getSpecial_illegal h x), fun i v hi => ?_, fun hz => ?_,
    fun hz => faults_of_eq (execResume_illegal hz x y), fun hz hX => ?_,
    fun h0 h7 => faults_of_eq (execTrap_unhandled h0 h7 x z)⟩
  · have hf := fun op => faults_of_eq (roundedX_illegal (s := s) hy x op)
    simp only [List.forall_mem_cons, List.not_mem_nil, false_imp_iff, implies_true, and_true]
    exact ⟨hf _, hf _, hf _, hf _, hf _, hf _, hf _, hf _, hf _, hf _, hf _, hf _⟩
  · rw [exec_put_forms hi]
    refine ⟨fun h => faults_of_eq (putNumbered_illegal h), fun hy hx => ?_⟩
    subst hy
    exact faults_of_eq (putNumbered_privileged hx v)
  · subst hz
    exact faults_of_eq rfl
  · subst hz
    exact faults_of_eq (execResume_unimplemented hX x y)

/-- Settles O3: the decoder evaluates on each word. -/
theorem sampleWordsDecode : Obligations.SampleWordsDecode := by
  unfold Obligations.SampleWordsDecode
  decide

/-- Settles O4: the instruction that `step` tests has the opcode of the fetched word. -/
theorem stepRunsDecoded : Obligations.StepRunsDecoded := by
  unfold Obligations.StepRunsDecoded
  intro s hs
  have himp := implements_eq_true (s := s) (i := decode s.fetch)
  rw [opcode_decode] at himp
  rw [step_of_running hs, execImplemented]
  refine ⟨fetch_eq_tetraIn s, fun hop => if_pos (himp.2 hop), fun hop => ?_⟩
  rw [if_neg fun h => himp.1 h hop]
  exact faults_fails s _

end Sys2Proof.Machine
end

section
/-! The integer arithmetic family (O14 to O19). A pair of forms is one operation on two operand values (`OpDoes`): the
shared meanings `signedX`, `unsignedX`, `multiplyHighX`, `divideX` and the comparisons each get one such rule, and
`pairDoes_of_op` carries it to the register form and the immediate form. What is left of a statement is its arithmetic:
`wrap64` of an exact result, and the bounds of a quotient. -/

namespace Sys2Proof.Machine

/-! ### From an operation on values to its two forms (30_encoding.md R123) -/

/-- The operation completes whenever `$X` may be written, with a value and special registers that satisfy `P`. -/
def OpDoes (op : State → Byte → Word → Word → Result) (P : State → Byte → Word → Word → Word → Specials → Prop) :
    Prop :=
  ∀ (s : State) (x : Byte) (y z : Word), s.roomFor x = true → ∃ v sr, Computes s x v sr (op s x y z) ∧ P s x y z v sr

theorem pairDoes_of_op {regForm immForm : Byte → Byte → Byte → Instr}
    {P : State → Byte → Word → Word → Word → Specials → Prop} {op : State → Byte → Word → Word → Result}
    (hop : OpDoes op P) (hreg : ∀ s x y z, exec (regForm x y z) s = op s x (s.reg y) (s.reg z))
    (himm : ∀ s x y z, exec (immForm x y z) s = op s x (s.reg y) (zext8 z)) : PairDoes regForm immForm P := by
  intro s x y z hroom
  rw [hreg, himm]
  exact ⟨hop s x _ _ hroom, hop s x _ _ hroom⟩

theorem negPairDoes_of_op {regForm immForm : Byte → Byte → Byte → Instr}
    {P : State → Word → Word → Word → Specials → Prop} {op : State → Byte → Word → Word → Result}
    (hop : OpDoes op fun s _ => P s) (hreg : ∀ s x y z, exec (regForm x y z) s = op s x (zext8 y) (s.reg z))
    (himm : ∀ s x y z, exec (immForm x y z) s = op s x (zext8 y) (zext8 z)) : NegPairDoes regForm immForm P := by
  intro s x y z hroom
  rw [hreg, himm]
  exact ⟨hop s x _ _ hroom, hop s x _ _ hroom⟩

/-! ### The two readings of a zero-extended field (R123) -/

theorem toNat_zext8 (b : Byte) : (zext8 b).toNat = b.toNat := BitVec.toNat_setWidth_of_le (by decide)

/-- A zero-extended byte is not negative. -/
theorem toInt_zext8 (b : Byte) : (zext8 b).toInt = b.toNat := by
  have hsmall : 2 * (zext8 b).toNat < 2 ^ 64 := by
    have := b.isLt
    rw [toNat_zext8]
    omega
  rw [BitVec.toInt_eq_toNat_of_lt hsmall, toNat_zext8]

/-! ### The exact result reduced to 64 bits (40_integer_arith.md R200) -/

theorem wrap64_toInt (a : Word) : wrap64 a.toInt = a := BitVec.ofInt_toInt

theorem wrap64_natCast (n : Nat) : wrap64 n = BitVec.ofNat 64 n := BitVec.ofInt_natCast 64 n

theorem wrap64_toNat (a : Word) : wrap64 a.toNat = a := by rw [wrap64_natCast, BitVec.ofNat_toNat, BitVec.setWidth_eq]

theorem wrap64_add (a b : Int) : wrap64 (a + b) = wrap64 a + wrap64 b := BitVec.ofInt_add a b

theorem wrap64_mul (a b : Int) : wrap64 (a * b) = wrap64 a * wrap64 b := BitVec.ofInt_mul a b

theorem wrap64_sub (a b : Int) : wrap64 (a - b) = wrap64 a - wrap64 b := by
  rw [eq_sub_iff_add_eq, ← wrap64_add, sub_add_cancel]

/-- The scaled additions (R205 to R208). -/
theorem wrap64_scaled_add (k : Nat) (y z : Word) :
    wrap64 (y.toNat * (k : Int) + z.toNat) = BitVec.ofNat 64 k * y + z := by
  rw [wrap64_add, wrap64_mul, wrap64_toNat, wrap64_toNat, wrap64_natCast, mul_comm]

/-- An exact result that fits is its own pattern. -/
theorem toInt_wrap64 {r : Int} (h : fitsSigned 64 r) : (wrap64 r).toInt = r :=
  BitVec.toInt_ofInt_eq_self (by decide) h.1 h.2

theorem toInt_fits (a : Word) : fitsSigned 64 a.toInt := ⟨BitVec.le_toInt a, BitVec.toInt_lt⟩

/-- The event of the model is the flag of the statements. -/
theorem overflowEvent_eq_signedFlag (r : Int) : overflowEvent r = signedFlag r := rfl

/-! ### Results with and without V -/

theorem opDoes_signedX {r : Word → Word → Int} {f : Word → Word → Word} (hf : ∀ y z, wrap64 (r y z) = f y z) :
    OpDoes (fun s x y z => s.signedX x (r y z))
      (fun s _ y z v sr => v = f y z ∧ sr = s.withEvents (signedFlag (r y z))) := by
  intro s x y z hroom
  refine ⟨_, _, computes_writeX hroom _ _, hf y z, ?_⟩
  rw [overflowEvent_eq_signedFlag]

theorem opDoes_writeX {f : Word → Word → Word} :
    OpDoes (fun s x y z => s.writeX x (f y z) 0) (fun s _ y z v sr => v = f y z ∧ sr = s.sr) :=
  fun _ _ _ _ hroom => ⟨_, _, computes_writeX_zero hroom _, rfl, rfl⟩

theorem opDoes_unsignedX {r : Word → Word → Int} {f : Word → Word → Word} (hf : ∀ y z, wrap64 (r y z) = f y z) :
    OpDoes (fun s x y z => s.unsignedX x (r y z)) (fun s _ y z v sr => v = f y z ∧ sr = s.sr) := by
  simp only [State.unsignedX, hf]
  exact opDoes_writeX

/-- The additions scaled by `k` (R202, R205 to R208). -/
theorem opDoes_scaledAdd (k : Nat) :
    OpDoes (fun s x y z => s.unsignedX x (y.toNat * (k : Int) + z.toNat))
      (fun s _ y z v sr => v = BitVec.ofNat 64 k * y + z ∧ sr = s.sr) :=
  opDoes_unsignedX (wrap64_scaled_add k)

theorem wrap64_toInt_sub (y z : Word) : wrap64 (y.toInt - z.toInt) = y - z := by
  rw [wrap64_sub, wrap64_toInt, wrap64_toInt]

theorem wrap64_toNat_sub (y z : Word) : wrap64 ((y.toNat : Int) - z.toNat) = y - z := by
  rw [wrap64_sub, wrap64_toNat, wrap64_toNat]

/-! ### The 128-bit product (R210) -/

theorem mul_div_two_pow_lt (y z : Word) : y.toNat * z.toNat / 2 ^ 64 < 2 ^ 64 :=
  Nat.div_lt_of_lt_mul (Nat.mul_lt_mul'' y.isLt z.isLt)

theorem opDoes_multiplyHighX :
    OpDoes (fun s x y z => s.multiplyHighX x y z) (fun s _ y z v sr =>
      ∃ h : Word, sr = { s.sr with rH := h } ∧ h.toNat * 2 ^ 64 + v.toNat = y.toNat * z.toNat) := by
  intro s x y z hroom
  refine ⟨_, _, computes_setReg hroom _ _, _, rfl, ?_⟩
  rw [BitVec.toNat_ofNat, BitVec.toNat_ofNat, Nat.mod_eq_of_lt (mul_div_two_pow_lt y z), Nat.div_add_mod']

/-! ### Division: the register write -/

/-- `divideX` (R211, R212). -/
theorem computes_divideX {s : State} {x : Byte} (hroom : s.roomFor x = true) (r : Word × Word × Byte) :
    Computes s x r.1 { s.withEvents r.2.2 with rR := r.2.1 } (s.divideX x r) :=
  computes_setReg hroom r.1 { s.withEvents r.2.2 with rR := r.2.1 }

theorem opDoes_divideX {r : State → Word → Word → Word × Word × Byte}
    {P : State → Byte → Word → Word → Word → Specials → Prop}
    (hP : ∀ s x y z, P s x y z (r s y z).1 { s.withEvents (r s y z).2.2 with rR := (r s y z).2.1 }) :
    OpDoes (fun s x y z => s.divideX x (r s y z)) P :=
  fun s x y z hroom => ⟨_, _, computes_divideX hroom _, hP s x y z⟩

/-! ### Floor division (R211) -/

/-- `r` lies between 0 and `z` and has the sign of `z`: a remainder of floor division by `z`. -/
def IsFloorRemainder (z r : Int) : Prop := 0 < z ∧ 0 ≤ r ∧ r < z ∨ z < 0 ∧ z < r ∧ r ≤ 0

theorem isFloorRemainder_fmod (y : Int) {z : Int} (hz : z ≠ 0) : IsFloorRemainder z (y.fmod z) := by
  obtain hneg | hpos := lt_or_gt_of_ne hz
  · have hnonneg := Int.fmod_nonneg_of_pos (-y) (neg_pos.2 hneg)
    have hlt := Int.fmod_lt_of_pos (-y) (neg_pos.2 hneg)
    rw [Int.neg_fmod_neg] at hnonneg hlt
    exact .inr ⟨hneg, by omega, by omega⟩
  · exact .inl ⟨hpos, Int.fmod_nonneg_of_pos y hpos, Int.fmod_lt_of_pos y hpos⟩

/-- A floor remainder of a word is a word. -/
theorem IsFloorRemainder.fits {z r : Int} (h : IsFloorRemainder z r) (hz : fitsSigned 64 z) : fitsSigned 64 r := by
  obtain ⟨hlo, hhi⟩ := hz
  obtain ⟨-, h0, hlt⟩ | ⟨-, hlt, h0⟩ := h
  · exact ⟨by omega, by omega⟩
  · exact ⟨by omega, by omega⟩

/-- The floor quotient of two words is a word, but for the one case of V. A quotient outside the range would, times a
divisor of size at least 1, leave a dividend outside it; at the upper bound a negative divisor must have size 2 for that,
and for -1 the quotient is the negated dividend. -/
theorem floorQuotient_fits {y z q r : Int} (hqr : q * z + r = y) (hr : IsFloorRemainder z r) (hy : fitsSigned 64 y)
    (hv : ¬(y = -2 ^ 63 ∧ z = -1)) : fitsSigned 64 q := by
  simp only [fitsSigned, Nat.add_one_sub_one, Nat.reducePow, Nat.cast_ofNat] at hy ⊢
  obtain ⟨hlo, hhi⟩ := hy
  obtain ⟨hz, h0, hlt⟩ | ⟨hz, hlt, h0⟩ := hr
  · constructor <;> by_contra! hq
    · have hprod : 0 ≤ -(q + 1) * (z - 1) := mul_nonneg (by omega) (by omega)
      linarith only [hq, hqr, hlt, hlo, hprod]
    · have hprod : 0 ≤ q * (z - 1) := mul_nonneg (by omega) (by omega)
      linarith only [hq, hqr, h0, hhi, hprod]
  · obtain rfl | hz2 : z = -1 ∨ z ≤ -2 := by omega
    · omega
    · constructor <;> by_contra! hq
      · have hprod : 0 ≤ -(q + 1) * (-z - 1) := mul_nonneg (by omega) (by omega)
        linarith only [hq, hqr, hlt, hhi, hprod]
      · have hprod : 0 ≤ q * (-z - 2) := mul_nonneg (by omega) (by omega)
        linarith only [hq, hqr, h0, hlo, hprod]

/-! ### The three cases of signed division (R211) -/

theorem divideSigned_zero (y : Word) : divideSigned y 0 = (0, y, 0x80#8) := rfl

theorem divideSigned_overflow {y z : Word} (h : y.toInt = -2 ^ 63 ∧ z.toInt = -1) :
    divideSigned y z = (y, 0, 0x40#8) := by
  have hz : z ≠ 0 := by
    rintro rfl
    exact absurd h.2 (by decide)
  rw [divideSigned, if_neg hz]
  exact if_pos h

theorem divideSigned_floor {y z : Word} (hz : z ≠ 0) (hv : ¬(y.toInt = -2 ^ 63 ∧ z.toInt = -1)) :
    divideSigned y z = (wrap64 (y.toInt.fdiv z.toInt), wrap64 (y.toInt.fmod z.toInt), 0) := by
  rw [divideSigned, if_neg hz, Int.fmod_def, mul_comm]
  exact if_neg hv

/-- Quotient and remainder of the third case, as signed numbers. -/
theorem toInt_floor_division {y z : Word} (hz : z ≠ 0) (hv : ¬(y.toInt = -2 ^ 63 ∧ z.toInt = -1)) :
    (wrap64 (y.toInt.fdiv z.toInt)).toInt * z.toInt + (wrap64 (y.toInt.fmod z.toInt)).toInt = y.toInt ∧
      IsFloorRemainder z.toInt (wrap64 (y.toInt.fmod z.toInt)).toInt := by
  have hzInt : z.toInt ≠ 0 := fun h => hz (BitVec.eq_of_toInt_eq h)
  have hqr : y.toInt.fdiv z.toInt * z.toInt + y.toInt.fmod z.toInt = y.toInt := Int.fdiv_mul_add_fmod _ _
  have hr := isFloorRemainder_fmod y.toInt hzInt
  rw [toInt_wrap64 (floorQuotient_fits hqr hr (toInt_fits y) hv), toInt_wrap64 (hr.fits (toInt_fits z))]
  exact ⟨hqr, hr⟩

/-! ### The two cases of unsigned division (R212) -/

theorem divideUnsigned_of_le {d z : Word} (h : z.toNat ≤ d.toNat) (y : Word) : divideUnsigned d y z = (d, y, 0) :=
  if_pos h

/-- The quotient and the remainder of the 128-bit dividend. -/
theorem divideUnsigned_of_lt {d z : Word} (h : d.toNat < z.toNat) (y : Word) :
    divideUnsigned d y z = (BitVec.ofNat 64 ((d.toNat * 2 ^ 64 + y.toNat) / z.toNat),
      BitVec.ofNat 64 ((d.toNat * 2 ^ 64 + y.toNat) % z.toNat), 0) := if_neg (Nat.not_le.2 h)

/-- A high half below the divisor leaves a quotient of 64 bits. -/
theorem quotient_lt_two_pow {d y z : Nat} (h : d < z) (hy : y < 2 ^ 64) : (d * 2 ^ 64 + y) / z < 2 ^ 64 := by
  have : (d + 1) * 2 ^ 64 ≤ z * 2 ^ 64 := Nat.mul_le_mul_right _ h
  exact Nat.div_lt_of_lt_mul (by omega)

/-! ### Comparison (R215, R216) -/

/-- The model's word for an ordering is the statements' word for the two numbers. -/
theorem orderingWord_compare (y z : Int) : orderingWord (compare y z) = orderWord y z := by
  unfold orderWord
  obtain h | rfl | h := lt_trichotomy y z
  · rw [compare_lt_iff_lt.2 h, if_pos h]
    rfl
  · rw [compare_eq_iff_eq.2 rfl, if_neg (lt_irrefl _), if_pos rfl]
    rfl
  · rw [compare_gt_iff_gt.2 h, if_neg h.asymm, if_neg h.ne']
    rfl

theorem compare_natCast (y z : Nat) : compare (y : Int) (z : Int) = compare y z := by
  rw [← cmp_eq_compare, ← cmp_eq_compare]
  exact Nat.strictMono_cast.cmp_map_eq y z

/-! ### The obligations -/

/-- Settles O14: an exact result, wrapped, with V by its range. -/
theorem signedAddSubNeg : Obligations.SignedAddSubNeg := by
  unfold Obligations.SignedAddSubNeg
  have hadd (y z : Word) : wrap64 (y.toInt + z.toInt) = y + z := by rw [wrap64_add, wrap64_toInt, wrap64_toInt]
  have hsub := opDoes_signedX wrap64_toInt_sub
  refine ⟨pairDoes_of_op (opDoes_signedX hadd) ?_ ?_, pairDoes_of_op hsub ?_ ?_, negPairDoes_of_op hsub ?_ ?_⟩
  case refine_5 | refine_6 => intros; rw [toInt_zext8]; rfl
  all_goals exact fun _ _ _ _ => rfl

/-- Settles O15: each exact result, wrapped. -/
theorem unsignedAddSubNeg : Obligations.UnsignedAddSubNeg := by
  unfold Obligations.UnsignedAddSubNeg
  have hadd (y z : Word) : wrap64 ((y.toNat : Int) + z.toNat) = y + z := by rw [wrap64_add, wrap64_toNat, wrap64_toNat]
  have hsub := opDoes_unsignedX wrap64_toNat_sub
  refine ⟨pairDoes_of_op (opDoes_unsignedX hadd) ?_ ?_, pairDoes_of_op (opDoes_scaledAdd 2) ?_ ?_,
    pairDoes_of_op (opDoes_scaledAdd 4) ?_ ?_, pairDoes_of_op (opDoes_scaledAdd 8) ?_ ?_,
    pairDoes_of_op (opDoes_scaledAdd 16) ?_ ?_, pairDoes_of_op hsub ?_ ?_, negPairDoes_of_op hsub ?_ ?_⟩
  case refine_13 | refine_14 => intros; rw [toNat_zext8]; rfl
  all_goals exact fun _ _ _ _ => rfl

/-- Settles O16: MUL as the other signed results, MULU by the two halves of its product. -/
theorem multiplication : Obligations.Multiplication := by
  unfold Obligations.Multiplication
  have hmul (y z : Word) : wrap64 (y.toInt * z.toInt) = y * z := by rw [wrap64_mul, wrap64_toInt, wrap64_toInt]
  exact ⟨pairDoes_of_op (opDoes_signedX hmul) (fun _ _ _ _ => rfl) fun _ _ _ _ => rfl,
    pairDoes_of_op opDoes_multiplyHighX (fun _ _ _ _ => rfl) fun _ _ _ _ => rfl⟩

/-- Settles O17, by the three cases of `divideSigned`. -/
theorem signedDivision : Obligations.SignedDivision := by
  unfold Obligations.SignedDivision
  refine pairDoes_of_op (opDoes_divideX (r := fun _ => divideSigned) fun s x y z => ⟨fun hz => ?_, fun hv => ?_,
    fun hz hv => ?_⟩) (fun _ _ _ _ => rfl) fun _ _ _ _ => rfl
  · rw [hz, divideSigned_zero]
    exact ⟨rfl, rfl⟩
  · rw [divideSigned_overflow hv]
    exact ⟨rfl, rfl⟩
  · rw [divideSigned_floor hz hv, withEvents_zero]
    exact ⟨_, rfl, toInt_floor_division hz hv⟩

/-- Settles O18, by the two cases of `divideUnsigned`. -/
theorem unsignedDivision : Obligations.UnsignedDivision := by
  unfold Obligations.UnsignedDivision
  refine pairDoes_of_op (opDoes_divideX (r := fun s => divideUnsigned s.sr.rD) fun s x y z => ⟨fun hle => ?_,
    fun hlt => ?_⟩) (fun _ _ _ _ => rfl) fun _ _ _ _ => rfl
  · rw [divideUnsigned_of_le hle, withEvents_zero]
    exact ⟨rfl, rfl⟩
  · have hq := quotient_lt_two_pow hlt y.isLt
    have hr := Nat.mod_lt (s.sr.rD.toNat * 2 ^ 64 + y.toNat) (Nat.zero_lt_of_lt hlt)
    rw [divideUnsigned_of_lt hlt, withEvents_zero]
    refine ⟨_, rfl, ?_⟩
    rw [BitVec.toNat_ofNat, BitVec.toNat_ofNat, Nat.mod_eq_of_lt hq, Nat.mod_eq_of_lt (hr.trans z.isLt)]
    exact ⟨Nat.div_add_mod' _ _, hr⟩

/-- Settles O19: both comparisons order two integers. -/
theorem integerComparison : Obligations.IntegerComparison := by
  unfold Obligations.IntegerComparison
  simp only [← orderingWord_compare, compare_natCast]
  exact ⟨pairDoes_of_op opDoes_writeX (fun _ _ _ _ => rfl) fun _ _ _ _ => rfl,
    pairDoes_of_op opDoes_writeX (fun _ _ _ _ => rfl) fun _ _ _ _ => rfl⟩

end Sys2Proof.Machine
end

section
/-! The bitwise family (O20 to O23). Every instruction of it is one `writeX` of a word (`opDoes_writeX_event`,
`opDoes_writeX_of`); what is left of a statement is what that word is: the shifts as exact products and floors, the
lanes, and the bits. -/

namespace Sys2Proof.Machine

/-! ### One written word -/

/-- An operation whose whole effect is one written word and its events. -/
theorem opDoes_writeX_event {f : Word → Word → Word} {ev : Word → Word → Byte}
    {P : State → Byte → Word → Word → Word → Specials → Prop}
    (hP : ∀ s x y z, P s x y z (f y z) (s.withEvents (ev y z))) :
    OpDoes (fun s x y z => s.writeX x (f y z) (ev y z)) P :=
  fun _ _ _ _ hroom => ⟨_, _, computes_writeX hroom _ _, hP _ _ _ _⟩

/-- An operation whose whole effect is one written word, which may depend on the special registers. -/
theorem opDoes_writeX_of {f : State → Word → Word → Word} {P : State → Byte → Word → Word → Word → Specials → Prop}
    (hP : ∀ s x y z, P s x y z (f s y z) s.sr) : OpDoes (fun s x y z => s.writeX x (f s y z) 0) P :=
  fun _ _ _ _ hroom => ⟨_, _, computes_writeX_zero hroom _, hP _ _ _ _⟩

/-! ### Shifts by the full amount (41_logical_bitwise.md R268 to R271) -/

/-- The case of 64 places and more of the model is the shift itself. -/
theorem shiftLeft_eq_shiftLeft (y z : Word) : shiftLeft y z = y <<< z.toNat :=
  ite_eq_right_iff.2 fun h => (BitVec.shiftLeft_eq_zero h).symm

theorem shiftRight_eq_ushiftRight (y z : Word) : shiftRight y z = y >>> z.toNat :=
  ite_eq_right_iff.2 fun h => (BitVec.ushiftRight_eq_zero h).symm

/-- R268, R269: the product modulo 2^64. -/
theorem shiftLeft_eq_mul (y z : Word) : shiftLeft y z = BitVec.ofNat 64 (y.toNat * 2 ^ z.toNat) := by
  apply BitVec.eq_of_toNat_eq
  rw [shiftLeft_eq_shiftLeft, BitVec.toNat_shiftLeft, Nat.shiftLeft_eq, BitVec.toNat_ofNat]

/-- R271: the floor of the unsigned quotient. -/
theorem shiftRight_eq_div (y z : Word) : shiftRight y z = BitVec.ofNat 64 (y.toNat / 2 ^ z.toNat) := by
  apply BitVec.eq_of_toNat_eq
  rw [shiftRight_eq_ushiftRight, BitVec.toNat_ushiftRight, Nat.shiftRight_eq_div_pow, BitVec.toNat_ofNat,
    Nat.mod_eq_of_lt ((Nat.div_le_self _ _).trans_lt y.isLt)]

/-- A signed word halved 63 times is its sign, and stays so. -/
theorem toInt_div_two_pow_of_le (y : Word) {n : Nat} (h : 63 ≤ n) : y.toInt / 2 ^ n = y.toInt / 2 ^ 63 := by
  obtain ⟨k, rfl⟩ := Nat.exists_eq_add_of_le h
  have hlo := BitVec.le_toInt y
  have hhi := BitVec.toInt_lt (x := y)
  rw [pow_add, ← Int.ediv_ediv_of_nonneg (by positivity)]
  obtain hsign | hsign : y.toInt / 2 ^ 63 = 0 ∨ y.toInt / 2 ^ 63 = -1 := by omega
  · rw [hsign, Int.zero_ediv]
  · rw [hsign, Int.neg_one_ediv, Int.sign_eq_one_of_pos (by positivity)]

/-- R270: the floor of the signed quotient. -/
theorem shiftRightSigned_eq_div (y z : Word) :
    shiftRightSigned y z = BitVec.ofInt 64 (y.toInt / 2 ^ z.toNat) := by
  have hmin : y.toInt / 2 ^ min z.toNat 63 = y.toInt / 2 ^ z.toNat := by
    obtain h | h := Nat.le_total z.toNat 63
    · rw [Nat.min_eq_left h]
    · rw [Nat.min_eq_right h, toInt_div_two_pow_of_le y h]
  rw [shiftRightSigned, BitVec.sshiftRight, Int.shiftRight_eq_div_pow, Nat.cast_pow, Nat.cast_ofNat, hmin]

/-- A number other than 0, shifted 64 places or more, does not fit. -/
theorem not_fits_mul_two_pow {r : Int} (hr : r ≠ 0) {n : Nat} (h : 64 ≤ n) :
    ¬(-2 ^ 63 ≤ r * 2 ^ n ∧ r * 2 ^ n < 2 ^ 63) := by
  have hpow : (2 : Int) ^ 64 ≤ 2 ^ n := pow_le_pow_right₀ (by decide) h
  obtain hneg | hpos : r ≤ -1 ∨ 1 ≤ r := by omega
  · have := mul_le_mul_of_nonneg_right hneg (a := (2 : Int) ^ n) (by positivity)
    omega
  · have := mul_le_mul_of_nonneg_right hpos (a := (2 : Int) ^ n) (by positivity)
    omega

/-- R268: V exactly when the exact value does not fit. -/
theorem shiftOverflowEvent_eq_signedFlag (y z : Word) :
    shiftOverflowEvent y z = signedFlag (y.toInt * 2 ^ z.toNat) := by
  unfold shiftOverflowEvent
  split
  next h =>
    split
    next hy =>
      subst hy
      exact (congrArg signedFlag (zero_mul _)).symm
    next hy =>
      have hy : y.toInt ≠ 0 := fun h0 => hy (BitVec.eq_of_toInt_eq h0)
      exact (if_neg (not_fits_mul_two_pow hy h)).symm
  next => rw [overflowEvent_eq_signedFlag, Nat.cast_pow, Nat.cast_ofNat]

/-! ### Lanes (R272 to R275) -/

theorem toNat_extractLsb'_eq_lane (w i : Nat) (v : Word) : (v.extractLsb' (w * i) w).toNat = lane w i v := by
  rw [BitVec.extractLsb'_toNat, Nat.shiftRight_eq_div_pow, lane]

theorem lane_sub_lt (w i : Nat) (y z : Word) : lane w i y - lane w i z < 2 ^ w :=
  (Nat.sub_le _ _).trans_lt (Nat.mod_lt _ (Nat.two_pow_pos w))

/-- The low `n` lanes stay below lane `n`: nothing carries out of them. -/
theorem laneDifferences_lt (w : Nat) (y z : Word) (n : Nat) : laneDifferences w y z n < 2 ^ (w * n) := by
  induction n with
  | zero => exact Nat.two_pow_pos _
  | succ n ih =>
    have hd := Nat.mul_le_mul_right (2 ^ (w * n)) (lane_sub_lt w n y z)
    rw [laneDifferences, Nat.mul_succ, Nat.pow_add, Nat.mul_comm (2 ^ (w * n))]
    linarith only [ih, hd]

/-- Each of the low `n` lanes is its own difference: a higher lane adds a multiple of what lies above it. -/
theorem laneDifferences_div_mod (w : Nat) (y z : Word) {i n : Nat} (hi : i < n) :
    laneDifferences w y z n / 2 ^ (w * i) % 2 ^ w = lane w i y - lane w i z := by
  induction n with
  | zero => omega
  | succ n ih =>
    rw [laneDifferences]
    obtain rfl | hlt := Nat.eq_or_lt_of_le (Nat.le_of_lt_succ hi)
    · rw [Nat.add_mul_div_right _ _ (Nat.two_pow_pos _), Nat.div_eq_of_lt (laneDifferences_lt w y z i), Nat.zero_add,
        Nat.mod_eq_of_lt (lane_sub_lt w i y z)]
    · obtain ⟨k, rfl⟩ := Nat.exists_eq_add_of_lt hlt
      have habove : 2 ^ (w * (i + k + 1)) = 2 ^ w * 2 ^ (w * k) * 2 ^ (w * i) := by ring
      rw [habove, ← Nat.mul_assoc, Nat.add_mul_div_right _ _ (Nat.two_pow_pos _), Nat.mul_left_comm,
        Nat.add_mul_mod_self_left, ih hlt]

theorem lane_laneDifference {w i : Nat} (hi : i < 64 / w) (y z : Word) :
    lane w i (laneDifference w y z) = lane w i y - lane w i z := by
  have hfits : laneDifferences w y z (64 / w) < 2 ^ 64 :=
    (laneDifferences_lt w y z _).trans_le (Nat.pow_le_pow_right (by decide) (Nat.mul_div_le 64 w))
  rw [lane, laneDifference, BitVec.toNat_ofNat, Nat.mod_eq_of_lt hfits, laneDifferences_div_mod w y z hi]

/-- The saturating difference of the `n` lanes of `w` bits. -/
theorem opDoes_laneDifference (w n : Nat) (hn : 64 / w = n) :
    OpDoes (fun s x y z => s.writeX x (laneDifference w y z) 0) (fun s _ y z v sr => sr = s.sr ∧ ∀ i, i < n →
      (v.extractLsb' (w * i) w).toNat = (y.extractLsb' (w * i) w).toNat - (z.extractLsb' (w * i) w).toNat) := by
  refine opDoes_writeX_of fun s x y z => ⟨rfl, fun i hi => ?_⟩
  simp only [toNat_extractLsb'_eq_lane]
  exact lane_laneDifference (hn ▸ hi) y z

/-! ### Bits (R276, R277) -/

theorem getLsbD_and_not (y z : Word) (i : Nat) : (y &&& ~~~z).getLsbD i = (y.getLsbD i && !z.getLsbD i) := by
  rw [BitVec.getLsbD_and, BitVec.getLsbD_not]
  cases hy : y.getLsbD i with
  | false => rfl
  | true => simp [BitVec.lt_of_getLsbD hy]

/-- R276: each bit of the mask chooses between the two operands. -/
theorem getLsbD_multiplex (y z m : Word) (i : Nat) :
    (y &&& m ||| z &&& ~~~m).getLsbD i = if m.getLsbD i then y.getLsbD i else z.getLsbD i := by
  rw [BitVec.getLsbD_or, BitVec.getLsbD_and, getLsbD_and_not]
  cases m.getLsbD i <;> simp

theorem bitCount_eq_countP (v : Word) (n : Nat) : bitCount v n = (List.range n).countP v.getLsbD := by
  induction n with
  | zero => rfl
  | succ n ih =>
    rw [bitCount, ih, List.range_succ, List.countP_append, List.countP_singleton]
    cases v.getLsbD n <;> rfl

/-- R277: a count of at most 64 is its own pattern. -/
theorem toNat_sidewaysAdd (v : Word) : (sidewaysAdd v).toNat = (List.range 64).countP v.getLsbD := by
  have hle : (List.range 64).countP v.getLsbD ≤ 64 := List.countP_le_length
  rw [sidewaysAdd, bitCount_eq_countP, BitVec.toNat_ofNat, Nat.mod_eq_of_lt (by omega)]

/-! ### Bit matrices (R278, R279) -/

theorem getLsbD_byteAt (k : Nat) (v : Word) {b : Nat} (hb : b < 8) :
    (byteAt k v).getLsbD b = v.getLsbD (8 * k + b) := by
  simp [byteAt, hb]

/-- What byte `k` of `y` contributes to bit `b` of byte `m` of a matrix product. -/
theorem getLsbD_selectedByte (y z : Word) (m : Nat) {k b : Nat} (hk : k < 8) (hb : b < 8) :
    (if (byteAt m z).getLsbD k then byteAt k y else 0).getLsbD b =
      (z.getLsbD (8 * m + k) && y.getLsbD (8 * k + b)) := by
  rw [getLsbD_byteAt m z hk]
  cases z.getLsbD (8 * m + k) with
  | false => exact BitVec.getLsbD_zero
  | true => exact getLsbD_byteAt k y hb

theorem getLsbD_combineBytes_or (y z : Word) (m : Nat) {b n : Nat} (hb : b < 8) (hn : n ≤ 8) :
    (combineBytes (fun p q => p ||| q) y (byteAt m z) n).getLsbD b =
      (List.range n).any fun k => z.getLsbD (8 * m + k) && y.getLsbD (8 * k + b) := by
  induction n with
  | zero => exact BitVec.getLsbD_zero
  | succ n ih =>
    rw [combineBytes, BitVec.getLsbD_or, ih (by omega), getLsbD_selectedByte y z m hn hb, List.range_succ,
      List.any_append, List.any_cons, List.any_nil, Bool.or_false]

/-- One more bit turns the parity of a count exactly when it is 1. -/
theorem decide_odd_add_ite (n : Nat) (c : Bool) :
    decide ((n + if c then 1 else 0) % 2 = 1) = (decide (n % 2 = 1) ^^ c) := by
  cases c with
  | false => exact (Bool.xor_false _).symm
  | true =>
    rw [if_pos rfl, Bool.xor_true, ← decide_not, decide_eq_decide]
    omega

theorem getLsbD_combineBytes_xor (y z : Word) (m : Nat) {b n : Nat} (hb : b < 8) (hn : n ≤ 8) :
    (combineBytes (fun p q => p ^^^ q) y (byteAt m z) n).getLsbD b =
      decide ((List.range n).countP (fun k => z.getLsbD (8 * m + k) && y.getLsbD (8 * k + b)) % 2 = 1) := by
  induction n with
  | zero => exact BitVec.getLsbD_zero
  | succ n ih =>
    rw [combineBytes, BitVec.getLsbD_xor, ih (by omega), getLsbD_selectedByte y z m hn hb, List.range_succ,
      List.countP_append, List.countP_singleton, decide_odd_add_ite]

theorem getLsbD_append_byte_of_lt {n : Nat} (hi : BitVec n) (lo : Byte) {b : Nat} (hb : b < 8) :
    (hi ++ lo).getLsbD b = lo.getLsbD b := by
  rw [BitVec.getLsbD_append, if_pos hb]

theorem getLsbD_append_byte_succ {n : Nat} (hi : BitVec n) (lo : Byte) (m b : Nat) :
    (hi ++ lo).getLsbD (8 * (m + 1) + b) = hi.getLsbD (8 * m + b) := by
  rw [BitVec.getLsbD_append, if_neg (by omega), show 8 * (m + 1) + b - 8 = 8 * m + b by omega]

/-- Eight bytes in a row, the last the least significant. -/
theorem getLsbD_append_bytes (c : Nat → Byte) {m b : Nat} (hm : m < 8) (hb : b < 8) :
    (c 7 ++ c 6 ++ c 5 ++ c 4 ++ c 3 ++ c 2 ++ c 1 ++ c 0).getLsbD (8 * m + b) = (c m).getLsbD b := by
  interval_cases m <;>
    simp only [getLsbD_append_byte_succ, getLsbD_append_byte_of_lt, hb, Nat.mul_zero, Nat.zero_add]

/-- Byte `m` of the product is the combination that byte `m` of `z` selects. -/
theorem getLsbD_matrixProduct (f : Byte → Byte → Byte) (y z : Word) {m b : Nat} (hm : m < 8) (hb : b < 8) :
    (matrixProduct f y z).getLsbD (8 * m + b) = (combineBytes f y (byteAt m z) 8).getLsbD b :=
  getLsbD_append_bytes (fun m => combineBytes f y (byteAt m z) 8) hm hb

/-! ### The obligations -/

/-- Settles O20: each is the one word it writes. -/
theorem bitwiseLogic : Obligations.BitwiseLogic := by
  unfold Obligations.BitwiseLogic
  refine ⟨pairDoes_of_op opDoes_writeX ?_ ?_, pairDoes_of_op opDoes_writeX ?_ ?_, pairDoes_of_op opDoes_writeX ?_ ?_,
    pairDoes_of_op opDoes_writeX ?_ ?_, pairDoes_of_op opDoes_writeX ?_ ?_, pairDoes_of_op opDoes_writeX ?_ ?_,
    pairDoes_of_op opDoes_writeX ?_ ?_, pairDoes_of_op opDoes_writeX ?_ ?_⟩
  all_goals exact fun _ _ _ _ => rfl

/-- Settles O21: the shifts as products and floors. -/
theorem shifts : Obligations.Shifts := by
  unfold Obligations.Shifts
  simp only [← shiftLeft_eq_mul, ← shiftRight_eq_div, ← shiftRightSigned_eq_div, ← shiftOverflowEvent_eq_signedFlag]
  refine ⟨pairDoes_of_op (opDoes_writeX_event fun _ _ _ _ => ⟨rfl, rfl⟩) ?_ ?_, pairDoes_of_op opDoes_writeX ?_ ?_,
    pairDoes_of_op opDoes_writeX ?_ ?_, pairDoes_of_op opDoes_writeX ?_ ?_⟩
  all_goals exact fun _ _ _ _ => rfl

/-- Settles O22, lane by lane. -/
theorem saturatingDifferences : Obligations.SaturatingDifferences := by
  unfold Obligations.SaturatingDifferences
  refine ⟨pairDoes_of_op (opDoes_laneDifference 8 8 rfl) ?_ ?_, pairDoes_of_op (opDoes_laneDifference 16 4 rfl) ?_ ?_,
    pairDoes_of_op (opDoes_laneDifference 32 2 rfl) ?_ ?_, pairDoes_of_op (opDoes_laneDifference 64 1 rfl) ?_ ?_⟩
  all_goals exact fun _ _ _ _ => rfl

/-- Settles O23, bit by bit. -/
theorem muxCountAndMatrices : Obligations.MuxCountAndMatrices := by
  unfold Obligations.MuxCountAndMatrices
  simp only [← getLsbD_and_not]
  refine ⟨pairDoes_of_op (opDoes_writeX_of (f := fun s y z => y &&& s.sr.rM ||| z &&& ~~~s.sr.rM)
      fun s _ y z => ⟨rfl, getLsbD_multiplex y z s.sr.rM⟩) ?_ ?_,
    pairDoes_of_op (opDoes_writeX_of (f := fun _ y z => sidewaysAdd (y &&& ~~~z))
      fun _ _ y z => ⟨rfl, toNat_sidewaysAdd (y &&& ~~~z)⟩) ?_ ?_,
    pairDoes_of_op (opDoes_writeX_of (f := fun _ => matrixProduct fun a b => a ||| b)
      fun _ _ y z => ⟨rfl, fun m b hm hb => ?_⟩) ?_ ?_,
    pairDoes_of_op (opDoes_writeX_of (f := fun _ => matrixProduct fun a b => a ^^^ b)
      fun _ _ y z => ⟨rfl, fun m b hm hb => ?_⟩) ?_ ?_⟩
  case refine_5 => rw [getLsbD_matrixProduct _ y z hm hb, getLsbD_combineBytes_or y z m hb le_rfl]
  case refine_8 => rw [getLsbD_matrixProduct _ y z hm hb, getLsbD_combineBytes_xor y z m hb le_rfl]
  all_goals exact fun _ _ _ _ => rfl

end Sys2Proof.Machine
end

section
/-! The wyde immediate family (O24 to O26). Every instruction of it is one `writeX` of a word made from `$X` and the wyde
in its lane (`wydeDoes_writeX`), and each lane is a concatenation (`wydeAt_high` to `wydeAt_low`). The sequence `SETI` is
a list of instructions that all write `$X`; `Leaves.cons` composes such instructions one at a time. -/

namespace Sys2Proof.Machine

/-! ### The four lanes (30_encoding.md R126) -/

/-- A wyde in one of the lanes loses no bits. -/
theorem toNat_wydeAt (w : Wyde) {k : Nat} (hk : k ≤ 48) : (wydeAt w k).toNat = w.toNat * 2 ^ k := by
  have hfits : w.toNat * 2 ^ k < 2 ^ 64 := calc
    w.toNat * 2 ^ k < 2 ^ 16 * 2 ^ k := Nat.mul_lt_mul_of_pos_right w.isLt (Nat.two_pow_pos k)
    _ = 2 ^ (16 + k) := (Nat.pow_add 2 16 k).symm
    _ ≤ 2 ^ 64 := Nat.pow_le_pow_right (by decide) (by omega)
  rw [wydeAt, BitVec.toNat_shiftLeft, BitVec.toNat_setWidth_of_le (by decide), Nat.shiftLeft_eq, Nat.mod_eq_of_lt hfits]

theorem toNat_append_zero {m : Nat} (a : BitVec m) (n : Nat) : (a ++ 0#n).toNat = a.toNat * 2 ^ n := by
  rw [BitVec.toNat_append, BitVec.toNat_zero, Nat.or_zero, Nat.shiftLeft_eq]

theorem toNat_zero_append {m : Nat} (a : BitVec m) (n : Nat) : (0#n ++ a).toNat = a.toNat := by
  rw [BitVec.toNat_append, BitVec.toNat_zero, Nat.zero_shiftLeft, Nat.zero_or]

theorem wydeAt_high (w : Wyde) : wydeAt w 48 = w ++ 0#48 :=
  BitVec.eq_of_toNat_eq (by rw [toNat_wydeAt w (by decide), toNat_append_zero])

theorem wydeAt_mediumHigh (w : Wyde) : wydeAt w 32 = 0#16 ++ w ++ 0#32 :=
  BitVec.eq_of_toNat_eq (by rw [toNat_wydeAt w (by decide), toNat_append_zero, toNat_zero_append])

theorem wydeAt_mediumLow (w : Wyde) : wydeAt w 16 = 0#32 ++ w ++ 0#16 :=
  BitVec.eq_of_toNat_eq (by rw [toNat_wydeAt w (by decide), toNat_append_zero, toNat_zero_append])

theorem wydeAt_low (w : Wyde) : wydeAt w 0 = 0#48 ++ w :=
  BitVec.eq_of_toNat_eq (by rw [toNat_wydeAt w (by decide), toNat_zero_append, Nat.pow_zero, Nat.mul_one])

/-- Wyde `k` of a word, as a number. -/
theorem toNat_wyde (v : Word) (k : Nat) : (v.extractLsb' k 16).toNat = v.toNat / 2 ^ k % 2 ^ 16 := by
  rw [BitVec.extractLsb'_toNat, Nat.shiftRight_eq_div_pow]

/-- A word is the sum of its four wydes, each in its lane. -/
theorem sum_of_lanes (v : Word) :
    wydeAt (v.extractLsb' 0 16) 0 + wydeAt (v.extractLsb' 16 16) 16 + wydeAt (v.extractLsb' 32 16) 32 +
      wydeAt (v.extractLsb' 48 16) 48 = v := by
  have hv := v.isLt
  apply BitVec.eq_of_toNat_eq
  simp only [BitVec.toNat_add, toNat_wydeAt _ (Nat.le_refl 48), toNat_wydeAt _ (by decide : 32 ≤ 48),
    toNat_wydeAt _ (by decide : 16 ≤ 48), toNat_wydeAt _ (by decide : 0 ≤ 48), toNat_wyde]
  omega

/-! ### One instruction -/

/-- An instruction whose whole effect is one word written to `$X`, made from `$X` before and the wyde. -/
theorem wydeDoes_writeX {form : Byte → Wyde → Instr} {f : Word → Wyde → Word}
    (h : ∀ s x w, exec (form x w) s = s.writeX x (f (s.reg x) w) 0) : WydeDoes form f := by
  intro s x w hroom
  rw [h]
  exact computes_writeX_zero hroom _

/-! ### Instructions in a row that all write the same register -/

variable {s t u : State} {x : Byte} {v v' : Word}

/-- A register written is no longer marginal (10_state.md R25). -/
theorem WroteReg.not_marginal (h : WroteReg s x v t) : t.marginal x = false := by
  obtain ⟨-, -, hL, hG⟩ := h
  apply decide_eq_false
  rw [hL, hG]
  cases hm : s.marginal x with
  | true => rw [if_pos rfl]; omega
  | false => rw [if_neg Bool.false_ne_true]; exact of_decide_eq_false hm

/-- So `RING_LIMIT` cannot forbid to write it again (10_state.md R33). -/
theorem WroteReg.roomFor (h : WroteReg s x v t) : t.roomFor x = true := by
  rw [State.roomFor, h.not_marginal, Bool.not_false, Bool.true_or]

theorem WroteReg.trans (h : WroteReg s x v t) (h' : WroteReg t x v' u) : WroteReg s x v' u := by
  have hm := h.not_marginal
  obtain ⟨-, hother, hL, hG⟩ := h
  obtain ⟨hsame', hother', hL', hG'⟩ := h'
  rw [hm, if_neg Bool.false_ne_true, hL] at hL'
  exact ⟨hsame', fun k hk => (hother' k hk).trans (hother k hk), hL', hG'.trans hG⟩

theorem KeptMem.trans (h : KeptMem s t) (h' : KeptMem t u) : KeptMem s u := fun a => (h' a).trans (h a)

theorem KeptRest.trans (h : KeptRest s t) (h' : KeptRest t u) : KeptRest s u := by
  obtain ⟨hstatus, hstack, hout, hparams⟩ := h
  obtain ⟨hstatus', hstack', hout', hparams'⟩ := h'
  exact ⟨hstatus'.trans hstatus, hstack'.trans hstack, hout'.trans hout, hparams'.trans hparams⟩

/-- `Computes` for a list of instructions: `$x` holds `v` after all of them, `pc` is past them, and nothing else has
changed. -/
def Leaves (s : State) (x : Byte) (v : Word) (is : List Instr) : Prop :=
  ∃ t, execAll is s = .next t ∧ WroteReg s x v t ∧ t.sr = s.sr ∧ t.pc = s.pc + BitVec.ofNat 64 (4 * is.length) ∧
    KeptMem s t ∧ KeptRest s t ∧ t.draws = s.draws

theorem execAll_cons {i : Instr} (h : exec i s = .next t) (is : List Instr) : execAll (i :: is) s = execAll is t := by
  rw [execAll, h]

theorem Leaves.singleton {i : Instr} (h : Computes s x v s.sr (exec i s)) : Leaves s x v [i] := by
  obtain ⟨t, hexec, hrest⟩ := h
  exact ⟨t, execAll_cons hexec [], hrest⟩

/-- The rest of the list may rely on what the first instruction left in `$x`, and on `$x` being writable. -/
theorem Leaves.cons {i : Instr} {is : List Instr} (h : Computes s x v s.sr (exec i s))
    (hrest : ∀ t, t.roomFor x = true → t.reg x = v → Leaves t x v' is) : Leaves s x v' (i :: is) := by
  obtain ⟨t, hexec, hreg, hsr, hpc, hmem, hkept, hdraws⟩ := h
  obtain ⟨u, hexec', hreg', hsr', hpc', hmem', hkept', hdraws'⟩ := hrest t hreg.roomFor hreg.1
  refine ⟨u, (execAll_cons hexec is).trans hexec', hreg.trans hreg', hsr'.trans hsr, ?_, hmem.trans hmem',
    hkept.trans hkept', hdraws'.trans hdraws⟩
  rw [hpc', hpc, List.length_cons, BitVec.add_assoc, Nat.mul_succ, Nat.add_comm, BitVec.ofNat_add]
  rfl

/-! ### The obligations -/

/-- Settles O24: each is the one word it writes, the lanes as concatenations. -/
theorem wydeSetAndIncrement : Obligations.WydeSetAndIncrement := by
  unfold Obligations.WydeSetAndIncrement
  simp only [← wydeAt_high, ← wydeAt_mediumHigh, ← wydeAt_mediumLow, ← wydeAt_low]
  refine ⟨wydeDoes_writeX ?_, wydeDoes_writeX ?_, wydeDoes_writeX ?_, wydeDoes_writeX ?_, wydeDoes_writeX ?_,
    wydeDoes_writeX ?_, wydeDoes_writeX ?_, wydeDoes_writeX ?_⟩
  all_goals exact fun _ _ _ => rfl

/-- Settles O25: each is the one word it writes, the lanes as concatenations. -/
theorem wydeOrAndNot : Obligations.WydeOrAndNot := by
  unfold Obligations.WydeOrAndNot
  simp only [← wydeAt_high, ← wydeAt_mediumHigh, ← wydeAt_mediumLow, ← wydeAt_low]
  refine ⟨wydeDoes_writeX ?_, wydeDoes_writeX ?_, wydeDoes_writeX ?_, wydeDoes_writeX ?_, wydeDoes_writeX ?_,
    wydeDoes_writeX ?_, wydeDoes_writeX ?_, wydeDoes_writeX ?_⟩
  all_goals exact fun _ _ _ => rfl

/-- Settles O26: `$X` collects the lanes of `v` one instruction at a time, from the rules of `SETL` and the `INC` forms
(O24). -/
theorem setiSequence : Obligations.SetiSequence := by
  unfold Obligations.SetiSequence
  intro s x v hroom
  obtain ⟨-, -, -, hsetl, hinch, hincmh, hincml, -⟩ := wydeSetAndIncrement
  suffices h : Leaves s x v (pseudoSeti x v) from h
  refine .cons (hsetl s x _ hroom) fun t₁ hroom₁ hlow => ?_
  refine .cons (hincml t₁ x _ hroom₁) fun t₂ hroom₂ hmediumLow => ?_
  refine .cons (hincmh t₂ x _ hroom₂) fun t₃ hroom₃ hmediumHigh => ?_
  have hv : t₃.reg x + (v.extractLsb' 48 16 ++ 0#48) = v := by
    simp only [hmediumHigh, hmediumLow, hlow, ← wydeAt_high, ← wydeAt_mediumHigh, ← wydeAt_mediumLow, ← wydeAt_low]
    exact sum_of_lanes v
  exact .singleton (by simpa only [hv] using hinch t₃ x (v.extractLsb' 48 16) hroom₃)

end Sys2Proof.Machine
end

section
/-! The load and store family, the part without rounding (O27, O29, O30). A load form writes one word made of the bytes
read (`opDoes_load`), and those bytes put together are the number that the model loads (`loadSigned_byte` to
`loadHighTetra`); a store form is `StoresBytes` with the event of its datum (`storePair_of_event`). -/

namespace Sys2Proof.Machine

/-! ### Loads of integers (43_load_store.md R321 to R328, R330, R332) -/

theorem toNat_append_eq {m n : Nat} (a : BitVec m) (b : BitVec n) : (a ++ b).toNat = a.toNat * 2 ^ n + b.toNat := by
  rw [BitVec.toNat_append, ← Nat.shiftLeft_add_eq_or_of_lt b.isLt, Nat.shiftLeft_eq]

theorem toNat_octaIn (m : Memory) (a : Nat) : (octaIn m a).toNat = m.readN a 8 := by
  rw [octaIn, toNat_append_eq, toNat_tetraIn, toNat_tetraIn]
  simp only [Memory.readN, Nat.add_assoc, Nat.reduceAdd]
  omega

theorem toNat_read (m : Memory) (a : Nat) : (m.read a).toNat = m.readN a 1 := by
  simp only [Memory.readN, Nat.zero_mul, Nat.zero_add, Nat.add_zero]

/-- A zero-extending load, by the bit pattern `b` of the bytes it reads. -/
theorem loadUnsigned_eq {s : State} {n : Nat} {a : Word} {w : Nat} {b : BitVec w}
    (h : b.toNat = s.mem.readN (effective n a) n) : s.loadUnsigned n a = b.setWidth 64 := by
  rw [State.loadUnsigned, Memory.load, ← h, BitVec.ofNat_toNat]

/-- A sign-extending load, by the bit pattern `b` of the bytes it reads. -/
theorem loadSigned_eq {s : State} {n : Nat} {a : Word} {b : BitVec (8 * n)}
    (h : b.toNat = s.mem.readN (effective n a) n) : s.loadSigned n a = b.signExtend 64 := by
  rw [State.loadSigned, Memory.load, ← h, BitVec.ofNat_toNat, BitVec.setWidth_eq]

theorem loadSigned_byte (s : State) (a : Word) : s.loadSigned 1 a = (s.mem.read (effective 1 a)).signExtend 64 :=
  loadSigned_eq (n := 1) (toNat_read s.mem _)

theorem loadUnsigned_byte (s : State) (a : Word) : s.loadUnsigned 1 a = (s.mem.read (effective 1 a)).setWidth 64 :=
  loadUnsigned_eq (toNat_read s.mem _)

theorem loadSigned_wyde (s : State) (a : Word) : s.loadSigned 2 a = (wydeIn s.mem (effective 2 a)).signExtend 64 :=
  loadSigned_eq (n := 2) (toNat_wydeIn s.mem _)

theorem loadUnsigned_wyde (s : State) (a : Word) : s.loadUnsigned 2 a = (wydeIn s.mem (effective 2 a)).setWidth 64 :=
  loadUnsigned_eq (toNat_wydeIn s.mem _)

theorem loadSigned_tetra (s : State) (a : Word) : s.loadSigned 4 a = (tetraIn s.mem (effective 4 a)).signExtend 64 :=
  loadSigned_eq (n := 4) (toNat_tetraIn s.mem _)

theorem loadUnsigned_tetra (s : State) (a : Word) : s.loadUnsigned 4 a = (tetraIn s.mem (effective 4 a)).setWidth 64 :=
  loadUnsigned_eq (toNat_tetraIn s.mem _)

theorem loadUnsigned_octa (s : State) (a : Word) : s.loadUnsigned 8 a = octaIn s.mem (effective 8 a) := by
  rw [loadUnsigned_eq (toNat_octaIn s.mem _), BitVec.setWidth_eq]

/-- `LDHT` shifts the tetra up (R330). -/
theorem loadHighTetra (s : State) (a : Word) :
    s.loadUnsigned 4 a <<< 32 = tetraIn s.mem (effective 4 a) ++ 0#32 := by
  rw [loadUnsigned_tetra]
  generalize tetraIn s.mem (effective 4 a) = t
  apply BitVec.eq_of_toNat_eq
  have := t.isLt
  rw [BitVec.toNat_shiftLeft, BitVec.toNat_setWidth, toNat_append_zero, Nat.shiftLeft_eq]
  omega

/-- An operation that writes `value s a` for the sum `a` of its operands, and sets no event. -/
theorem opDoes_load (value : State → Word → Word) {P : State → Byte → Word → Word → Word → Specials → Prop}
    (hP : ∀ s x y z, P s x y z (value s (y + z)) s.sr) :
    OpDoes (fun s x y z => s.writeX x (value s (y + z)) 0) P :=
  opDoes_writeX_of hP

/-! ### Stores of integers (R333 to R340, R342 to R344) -/

/-- A pair of forms that stores the datum, by the event it sets on each datum. -/
theorem storePair_of_event {n : Nat} {regForm immForm : Byte → Byte → Byte → Instr} {data : State → Byte → Word}
    {check : Bool} {ev : Word → Byte} (hn : AccessSize n)
    (hev : ∀ v : Word, ev v =
      if check = true ∧ (v.toInt < -2 ^ (8 * n - 1) ∨ 2 ^ (8 * n - 1) ≤ v.toInt) then 0x40#8 else 0#8)
    (h : StoresBytes n (regForm, immForm, data) fun s x => ev (data s x)) :
    StorePair regForm immForm n data check := by
  intro s x y z hm
  obtain rfl := funext hev
  obtain ⟨hreg, himm⟩ := h s x y z
  rw [hreg, himm]
  exact ⟨stores_storeX hm hn _ _ _, stores_storeX hm hn _ _ _⟩

/-- V exactly when the datum as a signed number does not fit. -/
theorem storePair_checked {n : Nat} {regForm immForm : Byte → Byte → Byte → Instr} {data : State → Byte → Word}
    (hn : AccessSize n) (h : StoresBytes n (regForm, immForm, data) fun s x => storeOverflowEvent n (data s x)) :
    StorePair regForm immForm n data true := by
  refine storePair_of_event hn (fun v => ?_) h
  have hfits : fitsSigned (8 * n) v.toInt ↔ ¬(v.toInt < -2 ^ (8 * n - 1) ∨ 2 ^ (8 * n - 1) ≤ v.toInt) := by
    rw [not_or, not_lt, not_le, fitsSigned, Nat.cast_pow, Nat.cast_ofNat]
  simp only [storeOverflowEvent, hfits, ite_not, true_and]
  rfl

/-- A pair of store forms that sets no event. -/
theorem storePair_unchecked {n : Nat} {regForm immForm : Byte → Byte → Byte → Instr} {data : State → Byte → Word}
    (hn : AccessSize n) (h : StoresBytes n (regForm, immForm, data) fun _ _ => 0) :
    StorePair regForm immForm n data false :=
  storePair_of_event hn (fun _ => (if_neg fun ⟨hcheck, _⟩ => Bool.false_ne_true hcheck).symm) h

/-! ### Compare and swap (R331) -/

theorem wroteReg_setMem_setReg (s : State) (m : Memory) (x : Byte) (v : Word) :
    WroteReg s x v ((s.setMem m).setReg x v).advance :=
  (wroteReg_setReg x v (s.setMem m)).congr rfl rfl

theorem wroteReg_setSr_setReg (s : State) (sr : Specials) (x : Byte) (v : Word) :
    WroteReg s x v ((s.setSr sr).setReg x v).advance :=
  (wroteReg_setReg x v (s.setSr sr)).congr rfl rfl

/-- The swap: the octa in memory equals rP. -/
theorem compareSwap_of_eq {s : State} {x : Byte} {a : Word} (hm : s.mem.wf) (hroom : s.roomFor x = true)
    (h : octaIn s.mem (effective 8 a) = s.sr.rP) :
    ∃ t, s.compareSwap x a = .next t ∧ WroteReg s x 1 t ∧ WroteMem s 8 a (s.reg x) t ∧ t.sr = s.sr ∧
      t.pc = s.pc + 4 ∧ KeptRest s t ∧ t.draws = s.draws := by
  have hexec : s.compareSwap x a = .next ((s.setMem (s.mem.store 8 a (s.reg x))).setReg x 1).advance := by
    rw [State.compareSwap, loadUnsigned_octa, if_pos h, guardWrite_of_room hroom]
  refine ⟨_, hexec, wroteReg_setMem_setReg s _ x 1, ?_, ?_⟩
  · exact wroteMem_store hm (.inr (.inr (.inr rfl))) a _ (mem_setReg x 1 _)
  · simp [KeptRest]

/-- The load of rP: the octa in memory differs from it. -/
theorem compareSwap_of_ne {s : State} {x : Byte} {a : Word} (hroom : s.roomFor x = true)
    (h : octaIn s.mem (effective 8 a) ≠ s.sr.rP) :
    Computes s x 0 { s.sr with rP := octaIn s.mem (effective 8 a) } (s.compareSwap x a) := by
  have hexec : s.compareSwap x a =
      .next ((s.setSr { s.sr with rP := octaIn s.mem (effective 8 a) }).setReg x 0).advance := by
    rw [State.compareSwap, loadUnsigned_octa, if_neg h, guardWrite_of_room hroom]
  refine ⟨_, hexec, wroteReg_setSr_setReg s _ x 0, ?_⟩
  simp [KeptRest, KeptMem]

/-! ### The obligations of integers and of the swap -/

/-- Settles O27, width by width: the number read is the one that the bytes stand for, put together. -/
theorem integerLoads : Obligations.IntegerLoads := by
  unfold Obligations.IntegerLoads
  refine ⟨pairDoes_of_op (opDoes_load (fun s a => s.loadSigned 1 a) fun s _ _ _ => ⟨rfl, loadSigned_byte s _⟩) ?_ ?_,
    pairDoes_of_op (opDoes_load (fun s a => s.loadUnsigned 1 a) fun s _ _ _ => ⟨rfl, loadUnsigned_byte s _⟩) ?_ ?_,
    pairDoes_of_op (opDoes_load (fun s a => s.loadSigned 2 a) fun s _ _ _ => ⟨rfl, loadSigned_wyde s _⟩) ?_ ?_,
    pairDoes_of_op (opDoes_load (fun s a => s.loadUnsigned 2 a) fun s _ _ _ => ⟨rfl, loadUnsigned_wyde s _⟩) ?_ ?_,
    pairDoes_of_op (opDoes_load (fun s a => s.loadSigned 4 a) fun s _ _ _ => ⟨rfl, loadSigned_tetra s _⟩) ?_ ?_,
    pairDoes_of_op (opDoes_load (fun s a => s.loadUnsigned 4 a) fun s _ _ _ => ⟨rfl, loadUnsigned_tetra s _⟩) ?_ ?_,
    pairDoes_of_op (opDoes_load (fun s a => s.loadUnsigned 8 a) fun s _ _ _ => ⟨rfl, loadUnsigned_octa s _⟩) ?_ ?_,
    pairDoes_of_op (opDoes_load (fun s a => s.loadUnsigned 8 a) fun s _ _ _ => ⟨rfl, loadUnsigned_octa s _⟩) ?_ ?_,
    pairDoes_of_op (opDoes_load (fun s a => s.loadUnsigned 8 a) fun s _ _ _ => ⟨rfl, loadUnsigned_octa s _⟩) ?_ ?_,
    pairDoes_of_op (opDoes_load (fun s a => s.loadUnsigned 4 a <<< 32) fun s _ _ _ => ⟨rfl, loadHighTetra s _⟩) ?_ ?_⟩
  all_goals exact fun _ _ _ _ => rfl

/-- Settles O29, in the two cases of the comparison. -/
theorem compareAndSwap : Obligations.CompareAndSwap := by
  unfold Obligations.CompareAndSwap
  intro s x y z hm hroom i a hi
  have hexec : exec i s = s.compareSwap x a := by
    obtain ⟨rfl, rfl⟩ | ⟨rfl, rfl⟩ := hi <;> rfl
  rw [hexec]
  exact ⟨compareSwap_of_eq hm hroom, compareSwap_of_ne hroom⟩

/-- Settles O30, from what each pair of forms stores. -/
theorem integerStores : Obligations.IntegerStores := by
  unfold Obligations.IntegerStores
  have byte : AccessSize 1 := .inl rfl
  have wyde : AccessSize 2 := .inr (.inl rfl)
  have tetra : AccessSize 4 := .inr (.inr (.inl rfl))
  have octa : AccessSize 8 := .inr (.inr (.inr rfl))
  exact ⟨storePair_checked byte storesBytes_stb, storePair_unchecked byte storesBytes_stbu,
    storePair_checked wyde storesBytes_stw, storePair_unchecked wyde storesBytes_stwu,
    storePair_checked tetra storesBytes_stt, storePair_unchecked tetra storesBytes_sttu,
    storePair_unchecked octa storesBytes_sto, storePair_unchecked octa storesBytes_stou,
    storePair_unchecked octa storesBytes_stunc, storePair_unchecked tetra storesBytes_stht,
    storePair_unchecked octa storesBytes_stco⟩

end Sys2Proof.Machine
end

section
/-! Correct rounding (46_floating_point.md R420 to R423), for O28, O31 and the floating-point statements. `Format.units`
is read through significands and exponents (`Format.units_eq`); an `Exact` value is a real by what its logarithm and its
integer parts say of it (`Exact.Denotes`, so far of the quotients: `Exact.denotes_div`); `roundsTo_roundTo` takes
`roundTo` of any such value to `RoundsTo`. -/

namespace Sys2Proof.Machine

/-! ### Bit patterns as numbers of units (R420) -/

section Units

variable (f : Format)

/-- A pattern `e * 2^fracBits + k` with a significand `k` of the full width, or any `k` at the least exponent, stands
for `k * 2^e`; so it does when a carry has made the significand one bit too wide. -/
theorem Format.units_eq {e k : Nat} (hlo : e = 0 ∨ 2 ^ f.fracBits ≤ k) (hhi : k ≤ 2 ^ (f.fracBits + 1)) :
    f.units (e * 2 ^ f.fracBits + k) = k * 2 ^ e := by
  have hpos : 0 < 2 ^ f.fracBits := Nat.two_pow_pos _
  rw [pow_succ] at hhi
  rw [Format.units]
  generalize 2 ^ f.fracBits = p at *
  obtain hk | hk := Nat.lt_or_ge k p
  · obtain rfl : e = 0 := hlo.resolve_right (by omega)
    rw [if_pos (by omega), Nat.zero_mul, Nat.zero_add, pow_zero, Nat.mul_one]
  · have hge : p ≤ e * p + k := by omega
    rw [if_neg (by omega)]
    obtain rfl | hk2 := Nat.eq_or_lt_of_le hhi
    · have hform : e * p + p * 2 = (e + 2) * p := by ring
      rw [hform, Nat.mul_mod_left, Nat.mul_div_cancel _ hpos, Nat.add_zero, show e + 2 - 1 = e + 1 from rfl, pow_succ]
      ring
    · have hform : e * p + k = k - p + (e + 1) * p := by
        rw [Nat.add_mul]
        omega
      have hlt : k - p < p := by omega
      rw [hform, Nat.add_mul_mod_self_right, Nat.add_mul_div_right _ _ hpos, Nat.mod_eq_of_lt hlt,
        Nat.div_eq_of_lt hlt, Nat.add_sub_cancel' hk, Nat.zero_add, Nat.add_sub_cancel]

/-- Every pattern has an exponent and a significand that `Format.units_eq` applies to. -/
theorem Format.exists_significand (mag : Nat) :
    ∃ e k, mag = e * 2 ^ f.fracBits + k ∧ (e = 0 ∨ 2 ^ f.fracBits ≤ k) ∧ k < 2 ^ (f.fracBits + 1) := by
  have hpos : 0 < 2 ^ f.fracBits := Nat.two_pow_pos _
  rw [pow_succ]
  generalize 2 ^ f.fracBits = p at *
  obtain h | h := Nat.lt_or_ge mag p
  · exact ⟨0, mag, by omega, .inl rfl, by omega⟩
  · have hdiv : 1 ≤ mag / p := (Nat.one_le_div_iff hpos).2 h
    have hmod := Nat.mod_lt mag hpos
    refine ⟨mag / p - 1, p + mag % p, ?_, .inr (by omega), by omega⟩
    have hsplit := Nat.div_add_mod' mag p
    rw [Nat.sub_mul, Nat.one_mul]
    have : p ≤ mag / p * p := Nat.le_mul_of_pos_left p hdiv
    omega

/-- Neighbouring patterns stand for rising numbers. -/
theorem Format.units_strictMono : StrictMono f.units := by
  refine strictMono_nat_of_lt_succ fun mag => ?_
  obtain ⟨e, k, rfl, hlo, hhi⟩ := f.exists_significand mag
  rw [Nat.add_assoc, f.units_eq hlo hhi.le, f.units_eq (by omega) hhi]
  exact Nat.mul_lt_mul_of_pos_right k.lt_succ_self (Nat.two_pow_pos e)

/-- Every significand of at most the full width, at every exponent, is exact. -/
theorem Format.exists_units_eq {k : Nat} (hk : k < 2 ^ (f.fracBits + 1)) (e : Nat) :
    ∃ mag, f.units mag = k * 2 ^ e := by
  induction e generalizing k with
  | zero => exact ⟨0 * 2 ^ f.fracBits + k, f.units_eq (.inl rfl) hk.le⟩
  | succ e ih =>
    obtain hlo | hlo := Nat.lt_or_ge k (2 ^ f.fracBits)
    · obtain ⟨mag, hmag⟩ := ih (k := k * 2) (by rw [pow_succ]; omega)
      exact ⟨mag, by rw [hmag, pow_succ]; ring⟩
    · exact ⟨_, f.units_eq (.inr hlo) hk.le⟩

/-- The pattern of infinity stands for the first number past the largest finite one. -/
theorem Format.units_infBits (hexp : f.expBits ≠ 0) : f.units f.infBits = 2 ^ f.fracBits * 2 ^ (2 ^ f.expBits - 2) := by
  have htwo : 2 ≤ 2 ^ f.expBits := Nat.le_self_pow hexp 2
  have hform : f.infBits = (2 ^ f.expBits - 2) * 2 ^ f.fracBits + 2 ^ f.fracBits := by
    rw [Format.infBits, ← Nat.succ_mul]
    congr 1
    omega
  rw [hform, f.units_eq (.inr le_rfl) (Nat.pow_le_pow_right two_pos (Nat.le_succ _))]

theorem Format.infBits_lt_signBit : f.infBits < f.signBit := by
  rw [Format.infBits, Format.signBit, pow_add]
  exact Nat.mul_lt_mul_of_pos_right (Nat.sub_lt (Nat.two_pow_pos _) Nat.one_pos) (Nat.two_pow_pos _)

theorem Format.pack_lt {mag : Nat} (h : mag ≤ f.infBits) (neg : Bool) : f.pack neg mag < 2 * f.signBit := by
  have := f.infBits_lt_signBit
  rw [Format.pack]
  split <;> omega

theorem Format.pack_eq (neg : Bool) (mag : Nat) : f.pack neg mag = f.signBit * neg.toNat + mag := by
  rw [Format.pack]
  cases neg <;> simp

/-- The sign of a packed number. -/
theorem Format.pack_sign {mag : Nat} (h : mag < f.infBits) (neg : Bool) :
    f.pack neg mag / f.signBit % 2 = neg.toNat := by
  have hmag := h.trans f.infBits_lt_signBit
  rw [f.pack_eq, Nat.mul_add_div (by omega), Nat.div_eq_of_lt hmag, Nat.add_zero, Nat.mod_eq_of_lt neg.toNat_lt]

/-- The exponent field of a packed number. -/
theorem Format.pack_exponent {mag : Nat} (h : mag < f.infBits) (neg : Bool) :
    f.pack neg mag / 2 ^ f.fracBits % 2 ^ f.expBits = mag / 2 ^ f.fracBits := by
  have hp : 0 < 2 ^ f.fracBits := Nat.two_pow_pos _
  have hexp : mag / 2 ^ f.fracBits < 2 ^ f.expBits - 1 := (Nat.div_lt_iff_lt_mul hp).2 h
  rw [f.pack_eq, Format.signBit, Nat.add_comm f.expBits, pow_add, Nat.mul_assoc, Nat.mul_add_div hp,
    Nat.mul_add_mod, Nat.mod_eq_of_lt (hexp.trans_le (Nat.sub_le _ _))]

/-- The fraction field of a packed number. -/
theorem Format.pack_fraction (neg : Bool) (mag : Nat) : f.pack neg mag % 2 ^ f.fracBits = mag % 2 ^ f.fracBits := by
  rw [f.pack_eq, Format.signBit, Nat.add_comm f.expBits, pow_add, Nat.mul_assoc, Nat.mul_add_mod]

/-- A pattern below infinity is read as the number it stands for. -/
theorem Format.unpack_pack {mag : Nat} (h : mag < f.infBits) (neg : Bool) :
    f.unpack (f.pack neg mag) = .finite neg (f.units mag) := by
  have hp : 0 < 2 ^ f.fracBits := Nat.two_pow_pos _
  have hexp : mag / 2 ^ f.fracBits < 2 ^ f.expBits - 1 := (Nat.div_lt_iff_lt_mul hp).2 h
  have hneg : decide (neg.toNat = 1) = neg := by cases neg <;> rfl
  simp only [Format.unpack, Format.units, f.pack_sign h, f.pack_exponent h, f.pack_fraction, hneg, if_neg hexp.ne,
    Nat.div_eq_zero_iff, hp.ne', false_or]
  split
  · rw [Nat.mod_eq_of_lt ‹_›]
  · rfl

/-- A finite datum is a significand of at most the full width at one of the exponents. -/
theorem Format.exists_of_unpack {bits : Nat} {neg : Bool} {m : Nat} (h : f.unpack bits = .finite neg m) :
    ∃ k e, m = k * 2 ^ e ∧ k < 2 ^ (f.fracBits + 1) ∧ e < 2 ^ f.expBits := by
  have hfrac := Nat.mod_lt bits (Nat.two_pow_pos f.fracBits)
  have hexp := Nat.mod_lt (bits / 2 ^ f.fracBits) (Nat.two_pow_pos f.expBits)
  rw [Format.unpack] at h
  rw [pow_succ]
  split at h
  · split at h <;> cases h
  · split at h <;> cases h
    · exact ⟨_, 0, (Nat.mul_one _).symm, by omega, Nat.two_pow_pos _⟩
    · exact ⟨_, _, rfl, by omega, by omega⟩

end Units

/-! ### Exact values as reals (R421) -/

/-- Where the real `x` lies from `k` to `k + 1`. -/
def Frac.Places (fr : Frac) (k : Nat) (x : ℝ) : Prop :=
  match fr with
  | .zero => x = k
  | .low => k < x ∧ x < k + 1 / 2
  | .half => x = k + 1 / 2
  | .high => k + 1 / 2 < x ∧ x < k + 1

section Places

variable {fr : Frac} {k : Nat} {x : ℝ}

theorem Frac.Places.le (h : fr.Places k x) : (k : ℝ) ≤ x := by
  cases fr <;> simp only [Frac.Places] at h <;> linarith

theorem Frac.Places.lt (h : fr.Places k x) : x < k + 1 := by
  cases fr <;> simp only [Frac.Places] at h <;> linarith

theorem Frac.Places.eq_iff (h : fr.Places k x) : x = k ↔ fr = .zero := by
  cases fr <;> simp only [Frac.Places] at h <;> simp only [reduceCtorEq, iff_false, iff_true]
  case zero => exact h
  all_goals exact fun hx => by linarith

/-- How a number compares with the midpoint of its neighbours. -/
def Frac.midpoint (fr : Frac) : Ordering :=
  match fr with
  | .zero | .low => .lt
  | .half => .eq
  | .high => .gt

theorem Frac.Places.cmp_midpoint (h : fr.Places k x) : cmp x (k + 1 / 2) = fr.midpoint := by
  cases fr <;> simp only [Frac.Places] at h
  case zero => exact (cmp_eq_lt_iff _ _).2 (by linarith)
  case low => exact (cmp_eq_lt_iff _ _).2 h.2
  case half => exact (cmp_eq_eq_iff _ _).2 h
  case high => exact (cmp_eq_gt_iff _ _).2 h.1

end Places

/-- Choosing a neighbour by the midpoint is rounding by the part after the point; an even offset keeps the ties. -/
theorem chosen_midpoint {fr : Frac} (hne : fr ≠ .zero) (mode : Rounding) (neg : Bool) {base : Nat}
    (heven : base % 2 = 0) (k : Nat) :
    chosen mode neg (base + k) fr.midpoint = base + roundUnit mode neg k fr := by
  cases fr with
  | zero => exact absurd rfl hne
  | low => cases mode <;> cases neg <;> rfl
  | high => cases mode <;> cases neg <;> rfl
  | half =>
    cases mode with
    | near =>
      simp only [chosen, roundUnit, Frac.midpoint]
      split <;> split <;> omega
    | off => rfl
    | up => cases neg <;> rfl
    | down => cases neg <;> rfl

theorem le_roundUnit (mode : Rounding) (neg : Bool) (k : Nat) (fr : Frac) : k ≤ roundUnit mode neg k fr := by
  unfold roundUnit
  split
  all_goals try split
  all_goals omega

/-- The exact value `r` is the positive real `v`: its logarithm and its integer parts are those of `v`. -/
structure Exact.Denotes (r : Exact) (v : ℝ) : Prop where
  num_ne_zero : r.num ≠ 0
  log2_le : (2 : ℝ) ^ r.log2 ≤ v
  lt_log2 : v < 2 ^ (r.log2 + 1)
  split : ∀ q : ℤ, (r.split q).2.Places (r.split q).1 (v / 2 ^ q)

theorem two_zpow_eq_div (e : ℤ) : (2 : ℝ) ^ e = 2 ^ e.toNat / 2 ^ (-e).toNat := by
  obtain ⟨n, rfl | rfl⟩ := e.eq_nat_or_neg <;> simp

/-- The part after the point of a quotient, by twice the remainder. -/
theorem fracOf_places {n d : Nat} (hd : 0 < d) : (fracOf (2 * (n % d)) d).Places (n / d) ((n : ℝ) / d) := by
  have hd' : (0 : ℝ) < d := by exact_mod_cast hd
  have hsplit : (n : ℝ) / d = (n / d : Nat) + (n % d : Nat) / d := by
    rw [div_eq_iff hd'.ne', add_mul, div_mul_cancel₀ _ hd'.ne']
    exact_mod_cast (Nat.div_add_mod' n d).symm
  have hlt := Nat.mod_lt n hd
  rw [hsplit]
  generalize n / d = k
  generalize n % d = m at hlt
  unfold fracOf
  split_ifs with hzero hlow hhalf
  · obtain rfl : m = 0 := by omega
    simp [Frac.Places]
  · have hpos : (0 : ℝ) < m / d := div_pos (by exact_mod_cast (by omega : 0 < m)) hd'
    have hbelow : (m : ℝ) / d < 1 / 2 := by
      rw [div_lt_div_iff₀ hd' two_pos]
      exact_mod_cast (by omega : m * 2 < 1 * d)
    exact ⟨by linarith, by linarith⟩
  · have heq : (m : ℝ) / d = 1 / 2 := by
      rw [div_eq_div_iff hd'.ne' two_ne_zero]
      exact_mod_cast (by omega : m * 2 = 1 * d)
    simp only [Frac.Places, heq]
  · have habove : 1 / 2 < (m : ℝ) / d := by
      rw [div_lt_div_iff₀ two_pos hd']
      exact_mod_cast (by omega : 1 * d < m * 2)
    have hone : (m : ℝ) / d < 1 := (div_lt_one hd').2 (by exact_mod_cast hlt)
    exact ⟨by linarith, by linarith⟩

theorem two_zpow_log2_le {n : Nat} (hn : 0 < n) : (2 : ℝ) ^ (n.log2 : ℤ) ≤ n := by
  rw [zpow_natCast]
  exact_mod_cast Nat.log2_self_le hn.ne'

theorem lt_two_zpow_log2 (n : Nat) : (n : ℝ) < 2 ^ ((n.log2 : ℤ) + 1) := by
  rw [← Nat.cast_succ, zpow_natCast]
  exact_mod_cast Nat.lt_log2_self

/-- The logarithms of the two numbers give that of their quotient, or one more. -/
theorem div_bounds_of_log2 {n d : Nat} (hn : 0 < n) (hd : 0 < d) :
    (2 : ℝ) ^ ((n.log2 : ℤ) - d.log2 - 1) ≤ n / d ∧ (n : ℝ) / d < 2 ^ ((n.log2 : ℤ) - d.log2 + 1) := by
  have hd' : (0 : ℝ) < d := by exact_mod_cast hd
  constructor
  · rw [show (n.log2 : ℤ) - d.log2 - 1 = n.log2 - (d.log2 + 1) by ring, zpow_sub₀ two_ne_zero]
    exact div_le_div₀ n.cast_nonneg (two_zpow_log2_le hn) hd' (lt_two_zpow_log2 d).le
  · rw [show (n.log2 : ℤ) - d.log2 + 1 = n.log2 + 1 - d.log2 by ring, zpow_sub₀ two_ne_zero]
    exact div_lt_div₀ (lt_two_zpow_log2 n) (two_zpow_log2_le hd) (by positivity) (by positivity)

/-- A positive quotient denotes itself. -/
theorem Exact.denotes_div {n d : Nat} (hn : 0 < n) (hd : 0 < d) : (Exact.mk n d false).Denotes ((n : ℝ) / d) := by
  have hd' : (0 : ℝ) < d := by exact_mod_cast hd
  have hscale (q : ℤ) : (n : ℝ) / d / 2 ^ q = (n * 2 ^ (-q).toNat : Nat) / (d * 2 ^ q.toNat : Nat) := by
    rw [two_zpow_eq_div]
    push_cast
    field_simp
  have hle_iff (e : ℤ) : d * 2 ^ e.toNat ≤ n * 2 ^ (-e).toNat ↔ (2 : ℝ) ^ e ≤ n / d := by
    rw [two_zpow_eq_div, div_le_div_iff₀ (by positivity) hd', mul_comm d]
    exact_mod_cast Iff.rfl
  obtain ⟨hlow, hhigh⟩ := div_bounds_of_log2 hn hd
  have hlog : (Exact.mk n d false).log2 = if (2 : ℝ) ^ ((n.log2 : ℤ) - d.log2) ≤ n / d then (n.log2 : ℤ) - d.log2 else
      (n.log2 : ℤ) - d.log2 - 1 := if_congr (hle_iff _) rfl rfl
  refine ⟨hn.ne', ?_, ?_, fun q => ?_⟩
  · rw [hlog]
    split
    · assumption
    · exact hlow
  · rw [hlog]
    split
    · exact hhigh
    · rwa [sub_add_cancel, ← not_le]
  · rw [hscale]
    exact fracOf_places (by positivity)

/-! ### The model's rounding is the correct one (R421 to R423) -/

/-- How a real compares with rationals. -/
noncomputable def cmpReal (x : ℝ) (q : ℚ) : Ordering := cmp x q

theorem cmpRat_eq_cmpReal (r : ℚ) : cmpRat r = cmpReal r := by
  funext q
  rw [cmpReal, Rat.cast_strictMono.cmp_map_eq, cmpRat]
  obtain hlt | heq | hgt := lt_trichotomy r q
  · rw [if_pos hlt, (cmp_eq_lt_iff _ _).2 hlt]
  · rw [if_neg heq.not_lt, if_pos heq, (cmp_eq_eq_iff _ _).2 heq]
  · rw [if_neg hgt.not_gt, if_neg hgt.ne', (cmp_eq_gt_iff _ _).2 hgt]

theorem cmpReal_eq_lt_iff {x : ℝ} {q : ℚ} : cmpReal x q = .lt ↔ x < q := cmp_eq_lt_iff _ _

theorem cmpReal_eq_eq_iff {x : ℝ} {q : ℚ} : cmpReal x q = .eq ↔ x = q := cmp_eq_eq_iff _ _

theorem cmpReal_ne_lt_iff {x : ℝ} {q : ℚ} : cmpReal x q ≠ .lt ↔ q ≤ x := by rw [Ne, cmpReal_eq_lt_iff, not_lt]

/-- The exponent of the last bit that is kept. -/
def Format.quantum (f : Format) (r : Exact) : ℤ := max (r.log2 - f.fracBits) (-(f.scale : ℤ))

/-- The bits below the sign, before the check for overflow. -/
def Format.roundedMag (f : Format) (mode : Rounding) (neg : Bool) (r : Exact) : Nat :=
  (f.quantum r + f.scale).toNat * 2 ^ f.fracBits +
    roundUnit mode neg (r.split (f.quantum r)).1 (r.split (f.quantum r)).2

section RoundTo

variable {f : Format} {r : Exact}

theorem roundTo_zero (hr : r.num = 0) (t : Tininess) (mode : Rounding) (neg : Bool) :
    roundTo f t mode neg r = (f.pack neg 0, 0) := if_pos hr

theorem roundTo_of_infBits_le {mode : Rounding} {neg : Bool} (hr : r.num ≠ 0) (h : f.infBits ≤ f.roundedMag mode neg r)
    (t : Tininess) :
    roundTo f t mode neg r =
      (f.pack neg (if overflowsToInf mode neg then f.infBits else f.infBits - 1), eventO ||| eventX) :=
  (if_neg hr).trans (if_pos h)

theorem roundTo_of_lt_infBits {mode : Rounding} {neg : Bool} (hr : r.num ≠ 0) (h : f.roundedMag mode neg r < f.infBits)
    (t : Tininess) :
    roundTo f t mode neg r = (f.pack neg (f.roundedMag mode neg r),
      if (r.split (f.quantum r)).2 = .zero then 0 else if tiny f t mode neg r then eventU ||| eventX else eventX) :=
  (if_neg hr).trans (if_neg (Nat.not_le.2 h))

theorem overflowsToInf_iff (mode : Rounding) (neg : Bool) :
    overflowsToInf mode neg = true ↔ infiniteOnOverflow mode neg := by
  cases mode <;> cases neg <;> simp [overflowsToInf, infiniteOnOverflow]

variable {v : ℝ}

/-- The exponent tells on which side of a power of 2 a number lies. -/
theorem Exact.Denotes.log2_lt_iff (h : r.Denotes v) (e : ℤ) : r.log2 < e ↔ v < 2 ^ e := by
  constructor
  · exact fun hlt => h.lt_log2.trans_le (zpow_le_zpow_right₀ one_le_two (by omega))
  · exact fun hlt => (zpow_lt_zpow_iff_right₀ one_lt_two).1 (h.log2_le.trans_lt hlt)

/-- Split at `q`, a number has at least the bits between its exponent and `q`. -/
theorem Exact.Denotes.le_split (h : r.Denotes v) {q : ℤ} {n : Nat} (hn : q + n ≤ r.log2) : 2 ^ n ≤ (r.split q).1 := by
  have hle : (2 : ℝ) ^ n ≤ v / 2 ^ q := by
    rw [le_div_iff₀ (zpow_pos two_pos q), ← zpow_natCast, ← zpow_add₀ two_ne_zero]
    exact (zpow_le_zpow_right₀ one_le_two (by omega)).trans h.log2_le
  have hlt : (2 : ℝ) ^ n < (r.split q).1 + 1 := hle.trans_lt (h.split q).lt
  exact Nat.lt_succ_iff.1 (by exact_mod_cast hlt)

/-- Split at `q`, a number has at most the bits between its exponent and `q`. -/
theorem Exact.Denotes.split_lt (h : r.Denotes v) {q : ℤ} {n : Nat} (hn : r.log2 < q + n) : (r.split q).1 < 2 ^ n := by
  have hlt : v / 2 ^ q < (2 : ℝ) ^ n := by
    rw [div_lt_iff₀ (zpow_pos two_pos q), ← zpow_natCast, ← zpow_add₀ two_ne_zero]
    exact h.lt_log2.trans_le (zpow_le_zpow_right₀ one_le_two (by omega))
  exact_mod_cast (h.split q).le.trans_lt hlt

/-- Before rounding, tiny is below the least normal number. -/
theorem tiny_beforeRounding_iff (h : r.Denotes v) (mode : Rounding) (neg : Bool) :
    tiny f .beforeRounding mode neg r = true ↔ v < 2 ^ (1 - (f.bias : ℤ)) :=
  decide_eq_true_iff.trans (h.log2_lt_iff _)

theorem tiny_afterRounding (f : Format) (mode : Rounding) (neg : Bool) (r : Exact) :
    tiny f .afterRounding mode neg r = decide (((roundUnit mode neg (r.split (r.log2 - f.fracBits)).1
      (r.split (r.log2 - f.fracBits)).2).log2 : ℤ) + (r.log2 - f.fracBits) < 1 - (f.bias : ℤ)) := rfl

/-- From the least normal number upward nothing is tiny, under either value of `TININESS`. -/
theorem not_tiny_of_le (h : r.Denotes v) (hv : 2 ^ (1 - (f.bias : ℤ)) ≤ v) (t : Tininess) (mode : Rounding)
    (neg : Bool) : tiny f t mode neg r = false := by
  have hlog : 1 - (f.bias : ℤ) ≤ r.log2 := not_lt.1 fun hlt => ((h.log2_lt_iff _).1 hlt).not_ge hv
  cases t with
  | beforeRounding => exact decide_eq_false (not_lt.2 hlog)
  | afterRounding =>
    have hround := (h.le_split (q := r.log2 - f.fracBits) (n := f.fracBits) (by omega)).trans
      (le_roundUnit mode neg _ (r.split (r.log2 - f.fracBits)).2)
    have hbits := (Nat.le_log2 (by have := Nat.two_pow_pos f.fracBits; omega)).2 hround
    rw [tiny_afterRounding]
    exact decide_eq_false (by omega)

/-- The significand has the full width, or the exponent is the least one. -/
theorem Exact.Denotes.quantum_split (h : r.Denotes v) (f : Format) :
    ((f.quantum r + f.scale).toNat = 0 ∨ 2 ^ f.fracBits ≤ (r.split (f.quantum r)).1) ∧
      (r.split (f.quantum r)).1 < 2 ^ (f.fracBits + 1) := by
  have hquantum : f.quantum r = max (r.log2 - f.fracBits) (-(f.scale : ℤ)) := rfl
  refine ⟨?_, h.split_lt (by omega)⟩
  obtain hmin | hmin := le_total (r.log2 - f.fracBits) (-(f.scale : ℤ))
  · exact .inl (by omega)
  · exact .inr (h.le_split (by omega))

/-- The number of units, by the integer part and the exponent of the last bit kept. -/
theorem Format.mul_scale_eq (f : Format) (r : Exact) (v : ℝ) :
    v * 2 ^ f.scale = v / 2 ^ f.quantum r * 2 ^ (f.quantum r + f.scale).toNat := by
  have hnonneg : 0 ≤ f.quantum r + f.scale := by
    have hquantum : f.quantum r = max (r.log2 - f.fracBits) (-(f.scale : ℤ)) := rfl
    omega
  rw [← zpow_natCast 2 (Int.toNat _), Int.toNat_of_nonneg hnonneg, zpow_add₀ two_ne_zero, zpow_natCast, ← mul_assoc,
    div_mul_cancel₀ _ (zpow_pos two_pos _).ne']

/-- The least normal number, in units. -/
theorem Format.leastNormal_mul_scale (hbias : 0 < f.bias) :
    (2 : ℝ) ^ (1 - (f.bias : ℤ)) * 2 ^ f.scale = 2 ^ f.fracBits := by
  have hscale : (f.scale : ℤ) = f.bias - 1 + f.fracBits := by
    rw [Format.scale]
    omega
  rw [← zpow_natCast, ← zpow_natCast, ← zpow_add₀ two_ne_zero, hscale]
  congr 1
  omega

/-- Below overflow an exact result sets no event; an inexact one sets X, and U with it below the least normal number
when tininess is judged before rounding (R422, R423). -/
def BelowOverflowEvents (f : Format) (p : Params) (units : ℝ) (isExact : Prop) (ev : Byte) : Prop :=
  (isExact → ev = 0) ∧
    (¬isExact → (ev = 0x01#8 ∨ ev = 0x05#8) ∧ (2 ^ f.fracBits ≤ units → ev = 0x01#8) ∧
      (p.tininess = .beforeRounding → units < 2 ^ f.fracBits → ev = 0x05#8))

/-- An overflowing result is infinite or the largest finite number, and sets O and X (R422). -/
def OverflowResult (f : Format) (mode : Rounding) (neg : Bool) (bits : Nat) (ev : Byte) : Prop :=
  ev = 0x09#8 ∧ (infiniteOnOverflow mode neg → bits = f.pack neg f.infBits) ∧
    (¬infiniteOnOverflow mode neg → bits = f.pack neg (f.infBits - 1))

/-- Correct rounding of `x * 2^e` units, by the place of `x`: the neighbours are `k * 2^e` and `(k + 1) * 2^e`, and the
part after the point tells which of them is chosen. -/
theorem roundsTo_of_places {x : ℝ} {e k : Nat} {fr : Frac} (hplaces : fr.Places k x) (hfrac : 0 < f.fracBits)
    (hsig : e = 0 ∨ 2 ^ f.fracBits ≤ k) (hwidth : k < 2 ^ (f.fracBits + 1)) {p : Params} {mode : Rounding} {neg : Bool}
    {bits : Nat} {ev : Byte}
    (hbelow : e * 2 ^ f.fracBits + roundUnit mode neg k fr < f.infBits →
      bits = f.pack neg (e * 2 ^ f.fracBits + roundUnit mode neg k fr) ∧
        BelowOverflowEvents f p (x * 2 ^ e) (fr = .zero) ev)
    (habove : f.infBits ≤ e * 2 ^ f.fracBits + roundUnit mode neg k fr → OverflowResult f mode neg bits ev) :
    RoundsTo f p mode neg (cmpReal (x * 2 ^ e)) bits ev := by
  have hcmp {c : ℝ} {q : ℚ} (hq : (q : ℝ) = c * 2 ^ e) : cmpReal (x * 2 ^ e) q = cmp x c := by
    rw [cmpReal, hq, cmp_mul_pos_right (by positivity)]
  have hlo : f.units (e * 2 ^ f.fracBits + k) = k * 2 ^ e := f.units_eq hsig hwidth.le
  have hhi : f.units (e * 2 ^ f.fracBits + k + 1) = (k + 1) * 2 ^ e := f.units_eq (by omega) hwidth
  have hlower : cmpReal (x * 2 ^ e) (f.units (e * 2 ^ f.fracBits + k)) = cmp x k := hcmp (by rw [hlo]; push_cast; rfl)
  have hupper : cmpReal (x * 2 ^ e) (f.units (e * 2 ^ f.fracBits + k + 1)) = cmp x (k + 1) :=
    hcmp (by rw [hhi]; push_cast; rfl)
  have hmid : cmpReal (x * 2 ^ e)
      (((f.units (e * 2 ^ f.fracBits + k) : ℚ) + f.units (e * 2 ^ f.fracBits + k + 1)) / 2) = fr.midpoint :=
    (hcmp (by rw [hlo, hhi]; push_cast; ring)).trans hplaces.cmp_midpoint
  have hexact : cmpReal (x * 2 ^ e) (f.units (e * 2 ^ f.fracBits + k)) = .eq ↔ fr = .zero := by
    rw [hlower, cmp_eq_eq_iff, hplaces.eq_iff]
  have heven : e * 2 ^ f.fracBits % 2 = 0 := by
    rw [Nat.mul_mod, Nat.pow_mod, Nat.mod_self, Nat.zero_pow hfrac, Nat.zero_mod, Nat.mul_zero, Nat.zero_mod]
  have hmag : (if fr = .zero then e * 2 ^ f.fracBits + k else chosen mode neg (e * 2 ^ f.fracBits + k) fr.midpoint) =
      e * 2 ^ f.fracBits + roundUnit mode neg k fr := by
    split
    next hzero => rw [hzero, roundUnit]
    next hne => exact chosen_midpoint hne mode neg heven k
  have hnormal : cmpReal (x * 2 ^ e) (2 ^ f.fracBits) = .lt ↔ x * 2 ^ e < 2 ^ f.fracBits := by
    rw [cmpReal_eq_lt_iff, Rat.cast_pow, Rat.cast_ofNat]
  refine ⟨e * 2 ^ f.fracBits + k, ?_, ?_, ?_⟩
  · rw [hlower, Ne, cmp_eq_lt_iff, not_lt]
    exact hplaces.le
  · rw [hupper, cmp_eq_lt_iff]
    exact hplaces.lt
  · simp only [hexact, hmid, hmag, ne_eq, hnormal, not_lt]
    exact ⟨hbelow, habove⟩

theorem Format.infBits_pos (hbias : 0 < f.bias) : 0 < f.infBits := by
  have hexp : f.expBits - 1 ≠ 0 := by
    intro h
    rw [Format.bias, h] at hbias
    exact absurd hbias (by decide)
  exact Nat.mul_pos (Nat.sub_pos_of_lt (Nat.one_lt_two_pow (by omega))) (Nat.two_pow_pos _)

/-- Zero is exact. -/
theorem roundsTo_pack_zero (hfrac : 0 < f.fracBits) (hbias : 0 < f.bias) (p : Params) (mode : Rounding) (neg : Bool) :
    RoundsTo f p mode neg (cmpReal 0) (f.pack neg 0) 0 := by
  have hplaces : Frac.zero.Places 0 0 := Nat.cast_zero.symm
  have hpos := Format.infBits_pos hbias
  rw [← zero_mul (2 ^ 0)]
  refine roundsTo_of_places hplaces hfrac (.inl rfl) (Nat.two_pow_pos _) (fun _ => ?_) fun h => ?_
  · rw [roundUnit, Nat.zero_mul]
    exact ⟨rfl, fun _ => rfl, fun hne => absurd rfl hne⟩
  · rw [roundUnit, Nat.zero_mul] at h
    omega

/-- The events of `roundTo` below overflow. -/
theorem belowOverflowEvents_roundTo (hbias : 0 < f.bias) (h : r.Denotes v) (p : Params) (mode : Rounding) (neg : Bool)
    (isExact : Prop) [Decidable isExact] :
    BelowOverflowEvents f p (v * 2 ^ f.scale) isExact
      (if isExact then 0 else if tiny f p.tininess mode neg r then eventU ||| eventX else eventX) := by
  have hscale : (0 : ℝ) < 2 ^ f.scale := by positivity
  refine ⟨fun hexact => if_pos hexact, fun hne => ?_⟩
  rw [if_neg hne, ← Format.leastNormal_mul_scale hbias]
  refine ⟨?_, fun hle => ?_, fun hp hlt => ?_⟩
  · split
    · exact .inr rfl
    · exact .inl rfl
  · rw [not_tiny_of_le h (le_of_mul_le_mul_right hle hscale), if_neg Bool.false_ne_true]
    rfl
  · rw [hp, (tiny_beforeRounding_iff h mode neg).2 (lt_of_mul_lt_mul_right hlt hscale.le), if_pos rfl]
    rfl

/-- `roundTo` rounds a positive value correctly. -/
theorem roundsTo_roundTo (hfrac : 0 < f.fracBits) (hbias : 0 < f.bias) (h : r.Denotes v) (p : Params) (mode : Rounding)
    (neg : Bool) :
    RoundsTo f p mode neg (cmpReal (v * 2 ^ f.scale)) (roundTo f p.tininess mode neg r).1
      (roundTo f p.tininess mode neg r).2 := by
  obtain ⟨hsig, hwidth⟩ := h.quantum_split f
  rw [Format.mul_scale_eq f r v]
  refine roundsTo_of_places (h.split _) hfrac hsig hwidth (fun hlt => ?_) fun hle => ?_
  · rw [roundTo_of_lt_infBits h.num_ne_zero hlt, ← Format.mul_scale_eq f r v]
    exact ⟨rfl, belowOverflowEvents_roundTo hbias h p mode neg _⟩
  · rw [roundTo_of_infBits_le h.num_ne_zero hle]
    refine ⟨rfl, fun hinf => ?_, fun hfin => ?_⟩
    · rw [if_pos ((overflowsToInf_iff mode neg).2 hinf)]
    · rw [if_neg fun hinf => hfin ((overflowsToInf_iff mode neg).1 hinf)]

/-- `roundTo` rounds every quotient correctly. -/
theorem roundsTo_roundTo_div (hfrac : 0 < f.fracBits) (hbias : 0 < f.bias) {d : Nat} (hd : 0 < d) (n : Nat) (p : Params)
    (mode : Rounding) (neg : Bool) :
    RoundsTo f p mode neg (cmpRat ((n : ℚ) / d * 2 ^ f.scale)) (roundTo f p.tininess mode neg ⟨n, d, false⟩).1
      (roundTo f p.tininess mode neg ⟨n, d, false⟩).2 := by
  rw [cmpRat_eq_cmpReal]
  push_cast
  obtain rfl | hn := Nat.eq_zero_or_pos n
  · rw [roundTo_zero rfl, Nat.cast_zero, zero_div, zero_mul]
    exact roundsTo_pack_zero hfrac hbias p mode neg
  · exact roundsTo_roundTo hfrac hbias (Exact.denotes_div hn hd) p mode neg

/-! ### What correct rounding says of the bits -/

variable {p : Params} {mode : Rounding} {neg : Bool} {bits : Nat} {ev : Byte}

theorem RoundsTo.bits_lt {c : ℚ → Ordering} (h : RoundsTo f p mode neg c bits ev) : bits < 2 * f.signBit := by
  obtain ⟨lo, -, -, hbelow, habove⟩ := h
  obtain hlt | hle := Nat.lt_or_ge _ f.infBits
  · obtain ⟨hbits, -⟩ := hbelow hlt
    exact hbits ▸ f.pack_lt hlt.le neg
  · obtain ⟨-, hinf, hfin⟩ := habove hle
    by_cases hover : infiniteOnOverflow mode neg
    · exact hinf hover ▸ f.pack_lt le_rfl neg
    · exact hfin hover ▸ f.pack_lt (Nat.sub_le _ _) neg

/-- A number of the format rounds to itself, and sets no event. -/
theorem RoundsTo.of_units {mag : Nat} (hmag : mag < f.infBits)
    (h : RoundsTo f p mode neg (cmpReal (f.units mag)) bits ev) : bits = f.pack neg mag ∧ ev = 0 := by
  obtain ⟨lo, hlo, hhi, hbelow, -⟩ := h
  rw [cmpReal_ne_lt_iff] at hlo
  rw [cmpReal_eq_lt_iff] at hhi
  have hle : lo ≤ mag := f.units_strictMono.le_iff_le.1 (by exact_mod_cast hlo)
  have hlt : mag < lo + 1 := f.units_strictMono.lt_iff_lt.1 (by exact_mod_cast hhi)
  obtain rfl : mag = lo := by omega
  have hexact : cmpReal (f.units mag) (f.units mag) = .eq := cmpReal_eq_eq_iff.2 (by push_cast; rfl)
  rw [if_pos hexact] at hbelow
  obtain ⟨hbits, hev, -⟩ := hbelow hmag
  exact ⟨hbits, hev hexact⟩

end RoundTo

end Sys2Proof.Machine
end

section
/-! Short floats (43_load_store.md R329, R341; 46_floating_point.md R448, R449), for O28 and O31. `widens_loadSf` and
`shortens_storeSf` go class by class: a NaN is its bits put together, a finite number is rounded
(`roundsTo_roundTo_div`), and the widened one is exact because binary64 has it (`exists_units_of_unpack`). -/

namespace Sys2Proof.Machine

/-! ### Widening (R448) -/

theorem infWord_eq_infinityWord (neg : Bool) : infWord neg = infinityWord neg := by cases neg <;> decide

/-- Every binary32 number is a binary64 number: in units, `2^925` times as many. -/
theorem exists_units_of_unpack {bits : Nat} {neg : Bool} {m : Nat} (h : binary32.unpack bits = .finite neg m) :
    ∃ mag, mag < binary64.infBits ∧ binary64.units mag = m * 2 ^ 925 := by
  obtain ⟨k, e, rfl, hk, he⟩ := binary32.exists_of_unpack h
  have hk32 : k < 2 ^ 24 := hk
  obtain ⟨mag, hmag⟩ := binary64.exists_units_eq (k := k) (hk32.trans (by decide)) (e + 925)
  refine ⟨mag, ?_, by rw [hmag, pow_add, Nat.mul_assoc]⟩
  have hexp : e + 925 ≤ 2 ^ binary64.expBits - 2 := by
    have he32 : e < 256 := he
    exact (show e + 925 ≤ 2046 by omega)
  rw [← binary64.units_strictMono.lt_iff_lt, hmag, binary64.units_infBits (by decide)]
  generalize 2 ^ binary64.expBits - 2 = top at hexp ⊢
  exact Nat.mul_lt_mul_of_lt_of_le (hk32.trans (by decide)) (Nat.pow_le_pow_right two_pos hexp) (Nat.two_pow_pos _)

theorem scale_binary64 : binary64.scale = 925 + binary32.scale := rfl

/-- Units of the narrower format in the wider one. -/
theorem div_two_pow_mul (x : ℚ) (a b : Nat) : x / (2 ^ a : Nat) * 2 ^ (b + a) = x * 2 ^ b := by
  push_cast
  rw [pow_add]
  field_simp

/-- Units of the wider format in the narrower one. -/
theorem div_two_pow_add_mul (x : ℚ) (a b : Nat) : x / (2 ^ (b + a) : Nat) * 2 ^ a = x / 2 ^ b := by
  push_cast
  rw [pow_add]
  field_simp

/-- The widened number is exact. -/
theorem floatVal_loadSf {t : Tetra} {neg : Bool} {m : Nat} (h : binary32.unpack t.toNat = .finite neg m) :
    floatVal (loadSf t) = .finite neg (m * 2 ^ 925) := by
  obtain ⟨mag, hmag, hunits⟩ := exists_units_of_unpack h
  have hround := roundsTo_roundTo_div (f := binary64) (by decide) (by decide) (Nat.two_pow_pos binary32.scale) m {}
    .near neg
  have hvalue : (m : ℚ) / (2 ^ binary32.scale : Nat) * 2 ^ binary64.scale = (binary64.units mag : ℚ) := by
    rw [hunits, scale_binary64, div_two_pow_mul, Nat.cast_mul, Nat.cast_pow, Nat.cast_ofNat]
  rw [hvalue, cmpRat_eq_cmpReal, Rat.cast_natCast] at hround
  obtain ⟨hbits, -⟩ := hround.of_units hmag
  have hpack : binary64.pack neg mag < 2 ^ 64 := binary64.pack_lt hmag.le neg
  rw [loadSf, h]
  dsimp only
  rw [hbits, floatVal, BitVec.toNat_ofNat, Nat.mod_eq_of_lt hpack, binary64.unpack_pack hmag, hunits]

theorem nan_loadSf {t : Tetra} {quiet : Bool} (h : binary32.unpack t.toNat = .nan quiet) :
    loadSf t = t.extractLsb' 31 1 ++ 0x7FF#11 ++ t.extractLsb' 0 23 ++ 0#29 := by
  have ht := t.isLt
  rw [loadSf, h]
  apply BitVec.eq_of_toNat_eq
  simp only [toNat_append_eq, BitVec.extractLsb'_toNat, BitVec.toNat_ofNat, Nat.shiftRight_eq_div_pow,
    BitVec.msb_eq_decide, Format.pack, decide_eq_true_eq, show binary64.signBit = 2 ^ 63 from rfl,
    show binary64.infBits = 2047 * 2 ^ 52 from rfl]
  split <;> omega

/-- `loadSf` is the widening of R448. -/
theorem widens_loadSf (t : Tetra) : Widens t (loadSf t) := by
  cases h : binary32.unpack t.toNat <;> simp only [Widens, h]
  case nan quiet => exact nan_loadSf h
  case inf neg => rw [loadSf, h, ← infWord_eq_infinityWord]
  case finite neg m => exact floatVal_loadSf h

/-- The tetra that a short load reads. -/
theorem ofNat_load_tetra (m : Memory) (a : Word) : BitVec.ofNat 32 (m.load 4 a) = tetraIn m (effective 4 a) := by
  rw [Memory.load, ← toNat_tetraIn, BitVec.ofNat_toNat, BitVec.setWidth_eq]

/-! ### Narrowing (R449) -/

/-- The quiet bit goes over the highest bit of the fraction, and joins the exponent. -/
theorem quiet_or_fraction (b : BitVec 1) (v : Word) :
    b ++ 0xFF#8 ++ 0#23 ||| 0x00400000#32 ||| (v.extractLsb' 29 23).setWidth 32 =
      b ++ 0x1FF#9 ++ v.extractLsb' 29 22 := by
  apply BitVec.eq_of_getLsbD_eq
  intro i hi
  rw [show 0x00400000#32 = BitVec.twoPow 32 22 from rfl, BitVec.getLsbD_or, BitVec.getLsbD_or, BitVec.getLsbD_twoPow]
  simp only [BitVec.getLsbD_append, BitVec.getLsbD_setWidth, BitVec.getLsbD_extractLsb', BitVec.getLsbD_zero]
  obtain hfraction | rfl | hexponent := lt_trichotomy i 22
  · simp [hi, hfraction, hfraction.ne', show i < 23 by omega]
  · simp
  · interval_cases i <;> simp

theorem nan_storeSf {v : Word} {quiet : Bool} (h : floatVal v = .nan quiet) (p : Params) (mode : Rounding) :
    storeSf p mode v = (v.extractLsb' 63 1 ++ 0x1FF#9 ++ v.extractLsb' 29 22, if quiet then 0#8 else 0x10#8) := by
  have hsign : BitVec.ofNat 32 (binary32.pack v.msb binary32.infBits) = v.extractLsb' 63 1 ++ 0xFF#8 ++ 0#23 := by
    have hv := v.isLt
    apply BitVec.eq_of_toNat_eq
    simp only [toNat_append_eq, BitVec.extractLsb'_toNat, BitVec.toNat_ofNat, Nat.shiftRight_eq_div_pow,
      BitVec.msb_eq_decide, Format.pack, decide_eq_true_eq, show binary32.signBit = 2 ^ 31 from rfl,
      show binary32.infBits = 255 * 2 ^ 23 from rfl]
    split <;> omega
  rw [← quiet_or_fraction, ← hsign, storeSf, h]
  rfl

theorem inf_storeSf {v : Word} {neg : Bool} (h : floatVal v = .inf neg) (p : Params) (mode : Rounding) :
    storeSf p mode v = (if neg then 0xFF800000#32 else 0x7F800000#32, 0#8) := by
  rw [storeSf, h]
  cases neg <;> rfl

theorem finite_storeSf {v : Word} {neg : Bool} {m : Nat} (h : floatVal v = .finite neg m) (p : Params)
    (mode : Rounding) :
    RoundsTo binary32 p mode neg (cmpRat ((m : ℚ) / 2 ^ 925)) (storeSf p mode v).1.toNat (storeSf p mode v).2 := by
  have hround := roundsTo_roundTo_div (f := binary32) (by decide) (by decide) (Nat.two_pow_pos binary64.scale) m p
    mode neg
  have hvalue : (m : ℚ) / (2 ^ binary64.scale : Nat) * 2 ^ binary32.scale = (m : ℚ) / 2 ^ 925 := by
    rw [scale_binary64, div_two_pow_add_mul]
  rw [hvalue] at hround
  have hbits := Nat.mod_eq_of_lt hround.bits_lt
  rw [storeSf, h]
  dsimp only
  rw [BitVec.toNat_ofNat]
  exact hbits.symm ▸ hround

/-- `storeSf` is the narrowing of R449. -/
theorem shortens_storeSf (p : Params) (mode : Rounding) (v : Word) :
    Shortens p mode v (storeSf p mode v).1 (storeSf p mode v).2 := by
  cases h : floatVal v <;> simp only [Shortens, h]
  case nan quiet =>
    rw [nan_storeSf h]
    exact ⟨rfl, rfl⟩
  case inf neg =>
    rw [inf_storeSf h]
    exact ⟨rfl, rfl⟩
  case finite neg m => exact finite_storeSf h p mode

/-! ### The obligations of short floats -/

/-- Settles O28: both forms widen the tetra they read. -/
theorem loadShortFloat : Obligations.LoadShortFloat := by
  unfold Obligations.LoadShortFloat
  refine pairDoes_of_op (opDoes_load (fun s a => loadSf (BitVec.ofNat 32 (s.mem.load 4 a))) fun s _ y z => ⟨rfl, ?_⟩)
    (fun _ _ _ _ => rfl) fun _ _ _ _ => rfl
  rw [ofNat_load_tetra]
  exact widens_loadSf _

/-- Settles O31: both forms store the narrowed word, with its events. -/
theorem storeShortFloat : Obligations.StoreShortFloat := by
  unfold Obligations.StoreShortFloat
  intro s x y z hm
  have tetra : AccessSize 4 := .inr (.inr (.inl rfl))
  obtain ⟨hreg, himm⟩ := storesBytes_stsf s x y z
  rw [hreg, himm]
  exact ⟨_, _, shortens_storeSf s.params s.modeRA (s.reg x), stores_storeX hm tetra _ _ _, stores_storeX hm tetra _ _ _⟩

end Sys2Proof.Machine
end

section
/-! The conditional set family (O34). Every instruction of it is one `writeX` of `z`, or of a value that does not depend
on the operands (the old `$X`, or 0), as a condition of `y` decides (`opDoes_select`). What is left is what each
condition says of the number that the word stands for. -/

namespace Sys2Proof.Machine

/-! ### The conditions of a word (44_conditional_set.md R360) -/

theorem condHolds_n_iff (v : Word) : condHolds .n v = true ↔ v.toInt < 0 := decide_eq_true_iff

theorem condHolds_z_iff (v : Word) : condHolds .z v = true ↔ v = 0 :=
  decide_eq_true_iff.trans (BitVec.toNat_eq (y := 0)).symm

theorem condHolds_p_iff (v : Word) : condHolds .p v = true ↔ 0 < v.toInt := decide_eq_true_iff

/-- The lowest bit of a number is its parity. -/
theorem condHolds_od_iff (v : Word) : condHolds .od v = true ↔ v.toNat % 2 = 1 := by
  rw [condHolds, BitVec.getLsbD, Nat.testBit_zero, decide_eq_true_iff]

theorem condHolds_nn_iff (v : Word) : condHolds .nn v = true ↔ 0 ≤ v.toInt := decide_eq_true_iff

theorem condHolds_nz_iff (v : Word) : condHolds .nz v = true ↔ v ≠ 0 :=
  decide_eq_true_iff.trans (BitVec.toNat_eq (y := 0)).symm.not

theorem condHolds_np_iff (v : Word) : condHolds .np v = true ↔ v.toInt ≤ 0 := decide_eq_true_iff

theorem condHolds_ev_iff (v : Word) : condHolds .ev v = true ↔ v.toNat % 2 = 0 := by
  rw [condHolds, Bool.not_eq_true', BitVec.getLsbD, Nat.testBit_zero, decide_eq_false_iff_not, Nat.mod_two_not_eq_one]

/-! ### One selected word -/

/-- The value written is `z` when the condition holds of `y` (`p` says when), and otherwise `other`: the old `$X` for a
conditional set, 0 for a zero-or-set. -/
theorem opDoes_select {c : Cond} {p : Word → Prop} [DecidablePred p] (hp : ∀ v, condHolds c v = true ↔ p v)
    (other : Byte → State → Word) :
    OpDoes (fun s x y z => s.writeX x (if condHolds c y then z else other x s) 0)
      fun s x y z v sr => v = (if p y then z else other x s) ∧ sr = s.sr := by
  intro s x y z hroom
  exact ⟨_, _, computes_writeX_zero hroom _, if_congr (hp y) rfl rfl, rfl⟩

/-! ### The obligation -/

/-- Settles O34, condition by condition, first the conditional sets and then the zero-or-sets. -/
theorem conditionalAndZeroOrSet : Obligations.ConditionalAndZeroOrSet := by
  unfold Obligations.ConditionalAndZeroOrSet
  refine ⟨pairDoes_of_op (opDoes_select condHolds_n_iff State.reg) ?_ ?_,
    pairDoes_of_op (opDoes_select condHolds_z_iff State.reg) ?_ ?_,
    pairDoes_of_op (opDoes_select condHolds_p_iff State.reg) ?_ ?_,
    pairDoes_of_op (opDoes_select condHolds_od_iff State.reg) ?_ ?_,
    pairDoes_of_op (opDoes_select condHolds_nn_iff State.reg) ?_ ?_,
    pairDoes_of_op (opDoes_select condHolds_nz_iff State.reg) ?_ ?_,
    pairDoes_of_op (opDoes_select condHolds_np_iff State.reg) ?_ ?_,
    pairDoes_of_op (opDoes_select condHolds_ev_iff State.reg) ?_ ?_,
    pairDoes_of_op (opDoes_select condHolds_n_iff fun _ _ => 0) ?_ ?_,
    pairDoes_of_op (opDoes_select condHolds_z_iff fun _ _ => 0) ?_ ?_,
    pairDoes_of_op (opDoes_select condHolds_p_iff fun _ _ => 0) ?_ ?_,
    pairDoes_of_op (opDoes_select condHolds_od_iff fun _ _ => 0) ?_ ?_,
    pairDoes_of_op (opDoes_select condHolds_nn_iff fun _ _ => 0) ?_ ?_,
    pairDoes_of_op (opDoes_select condHolds_nz_iff fun _ _ => 0) ?_ ?_,
    pairDoes_of_op (opDoes_select condHolds_np_iff fun _ _ => 0) ?_ ?_,
    pairDoes_of_op (opDoes_select condHolds_ev_iff fun _ _ => 0) ?_ ?_⟩
  all_goals exact fun _ _ _ _ => rfl

end Sys2Proof.Machine
end

section
/-! The control transfer family (O35 to O39). Relative and absolute targets are first put in the spec's form. A push
and a `POP` each get one rule that says what the whole state is (`pushes_pushed`, `pops_popped`), made of the rules for the
frame: what it holds above the hole, below it, and after the caller's registers have come back. The calling convention is
the two rules one after the other: the segment that the push leaves is the one that `POP` takes. -/

namespace Sys2Proof.Machine

/-! ### Targets (30_encoding.md R124, R125; 45_control_transfer.md R405) -/

theorem relTarget_natCast (pc : Word) (k : Nat) : relTarget pc k = pc + BitVec.ofNat 64 (4 * k) := by
  rw [relTarget, wrap64_add, wrap64_toNat, show (4 : Int) * k = (4 * k : Nat) by omega, wrap64_natCast]

theorem relTarget_natCast_sub (pc : Word) {k n : Nat} (h : k ≤ n) :
    relTarget pc ((k : Int) - n) = pc - BitVec.ofNat 64 (4 * (n - k)) := by
  rw [relTarget, show (pc.toNat : Int) + 4 * ((k : Int) - n) = pc.toNat - (4 * (n - k) : Nat) by omega, wrap64_sub,
    wrap64_toNat, wrap64_natCast]

theorem relTarget_forward16 (pc : Word) (yz : Wyde) :
    relTarget pc (forward16 yz) = pc + BitVec.ofNat 64 (4 * yz.toNat) := relTarget_natCast pc yz.toNat

theorem relTarget_backward16 (pc : Word) (yz : Wyde) :
    relTarget pc (backward16 yz) = pc - BitVec.ofNat 64 (4 * (65536 - yz.toNat)) :=
  relTarget_natCast_sub pc (Nat.le_of_lt yz.isLt)

theorem relTarget_forward24 (pc : Word) (xyz : BitVec 24) :
    relTarget pc (forward24 xyz) = pc + BitVec.ofNat 64 (4 * xyz.toNat) := relTarget_natCast pc xyz.toNat

theorem relTarget_backward24 (pc : Word) (xyz : BitVec 24) :
    relTarget pc (backward24 xyz) = pc - BitVec.ofNat 64 (4 * (16777216 - xyz.toNat)) :=
  relTarget_natCast_sub pc (Nat.le_of_lt xyz.isLt)

/-- Clearing the low two bits keeps the other 62 (R405). -/
theorem alignTarget_eq_append (a : Word) : alignTarget a = a.extractLsb' 2 62 ++ 0#2 := by
  apply BitVec.eq_of_getLsbD_eq
  intro i hi
  rw [alignTarget, getLsbD_and_not, BitVec.getLsbD_append, BitVec.getLsbD_ofNat, show 3 = 2 ^ 2 - 1 from rfl,
    Nat.testBit_two_pow_sub_one]
  by_cases hlow : i < 2
  · simp [hlow, hi]
  · rw [if_neg hlow, BitVec.getLsbD_extractLsb', Nat.add_sub_cancel' (Nat.le_of_not_lt hlow)]
    simp [hlow, show i - 2 < 62 by omega]

/-- A multiple of 4 is its own target. -/
theorem alignTarget_of_mod_four {a : Word} (h : a.toNat % 4 = 0) : alignTarget a = a := by
  apply BitVec.eq_of_toNat_eq
  rw [alignTarget_eq_append, BitVec.toNat_append, BitVec.extractLsb'_toNat, Nat.shiftRight_eq_div_pow,
    BitVec.toNat_ofNat, Nat.zero_mod, Nat.or_zero, Nat.shiftLeft_eq]
  omega

/-! ### Branches, jumps and links (R380, R397 to R399) -/

/-- A branch and its backward twin are `branch` by the two offsets, with a condition `c` that `p` says in words. -/
theorem branchPair_of_branch {f b : Byte → Wyde → Instr} {c : Cond} {p : Word → Prop}
    (hp : ∀ v, condHolds c v = true ↔ p v) (hf : ∀ s x yz, exec (f x yz) s = s.branch c x (forward16 yz))
    (hb : ∀ s x yz, exec (b x yz) s = s.branch c x (backward16 yz)) : BranchPair f b p := by
  intro s x yz
  have hforward := goesTo_branch c x (forward16 yz) s
  have hbackward := goesTo_branch c x (backward16 yz) s
  rw [relTarget_forward16] at hforward
  rw [relTarget_backward16] at hbackward
  rw [hf, hb]
  refine ⟨fun h => ?_, fun h => ?_⟩
  · have hc := (hp _).2 h
    rw [if_pos hc] at hforward hbackward
    exact ⟨hforward, hbackward⟩
  · have hc := mt (hp _).1 h
    rw [if_neg hc] at hforward hbackward
    exact ⟨hforward, hbackward⟩

/-- `goX`, when `$X` may be written (R399). -/
theorem links_goX {s : State} {x : Byte} (h : s.roomFor x = true) (a : Word) :
    ∃ t, s.goX x a = .next t ∧ WroteReg s x (s.pc + 4) t ∧ t.pc = alignTarget a ∧ t.sr = s.sr ∧ KeptMem s t ∧
      KeptRest s t ∧ t.draws = s.draws :=
  ⟨_, goX_of_room h a, (wroteReg_setReg x _ s).congr rfl rfl, rfl, by simp, fun _ => by simp, by simp [KeptRest],
    by simp⟩

/-! ### The frame of a push (R400) -/

/-- What `$0` to `$(h-1)` read, as `Pushes` lists it. -/
def State.firstRegs (h : Nat) (s : State) : List Word := (List.range h).map fun i => s.reg (BitVec.ofNat 8 i)

@[simp] theorem length_firstRegs (h : Nat) (s : State) : (s.firstRegs h).length = h := by
  rw [State.firstRegs, List.length_map, List.length_range]

theorem getElem_firstRegs {h i : Nat} (s : State) (hi : i < (s.firstRegs h).length) :
    (s.firstRegs h)[i] = s.reg (BitVec.ofNat 8 i) := by
  simp only [State.firstRegs, List.getElem_map, List.getElem_range]

section Calls

variable {s : State} {x : Byte}

theorem hiddenBy_eq_hole (s : State) (x : Byte) : hiddenBy s x = s.hole x := rfl

theorem hole_of_lt (h : x.toNat < s.G) : s.hole x = x.toNat := if_neg (Nat.not_le.2 h)

theorem hole_le_G (hLG : s.L ≤ s.G) (x : Byte) : s.hole x ≤ s.G := by
  unfold State.hole
  split <;> omega

theorem reg_congr_of_global {s t : State} (hg : t.glob = s.glob) {k : Byte} (h : s.G ≤ k.toNat) :
    t.reg k = s.reg k := by
  rw [reg_of_global h, reg_of_global (G_congr hg ▸ h), G_congr hg, hg]

/-- A register below G, by its number. -/
theorem reg_ofNat {i : Nat} (h : i < s.G) : s.reg (BitVec.ofNat 8 i) = s.frame.getD i 0 := by
  have hi : (BitVec.ofNat 8 i).toNat = i := by
    rw [BitVec.toNat_ofNat]
    have := State.G_eq s
    omega
  rw [reg_of_lt (hi.symm ▸ h), hi]

theorem length_widened (h : Nat) : (s.widened h).length = max s.L (h + 1) := by
  rw [State.widened, List.length_append, List.length_replicate, State.L_eq]
  omega

/-- The registers that a push makes local hold the 0 that they read as before. -/
theorem getD_widened (h i : Nat) : (s.widened h).getD i 0 = s.frame.getD i 0 := by
  rw [State.widened]
  by_cases hi : i < s.frame.length
  · rw [List.getD_append _ _ _ _ hi]
  · rw [List.getD_append_right _ _ _ _ (by omega), List.getD_eq_default s.frame _ (by omega),
      List.getD_eq_getElem?_getD, List.getElem?_replicate]
    split <;> rfl

/-- The registers that a push hides lie below the hole. -/
theorem take_widened {h : Nat} (hG : h ≤ s.G) : (s.widened h).take h = s.firstRegs h := by
  have hlen := length_widened (s := s) h
  apply List.ext_getElem
  · rw [List.length_take, length_firstRegs]
    omega
  · intro i _ hi
    have hih : i < h := length_firstRegs h s ▸ hi
    rw [List.getElem_take, getElem_firstRegs, reg_ofNat (by omega), ← getD_widened h i,
      List.getD_eq_getElem _ _ (by omega)]

theorem glob_pushed (x : Byte) (a : Word) : (s.pushed x a).glob = s.glob := rfl

theorem stack_pushed (hLG : s.L ≤ s.G) (x : Byte) (a : Word) :
    (s.pushed x a).stack = s.stack ++ s.firstRegs (s.hole x) ++ [BitVec.ofNat 64 (s.hole x)] := by
  rw [← take_widened (hole_le_G hLG x)]
  rfl

theorem length_stack_pushed (hLG : s.L ≤ s.G) (x : Byte) (a : Word) :
    (s.pushed x a).stack.length = s.stack.length + s.hole x + 1 := by
  rw [stack_pushed hLG, List.length_append, List.length_append, length_firstRegs, List.length_singleton]

/-- The callee's registers are those above the hole. -/
theorem reg_pushed_of_lt (hLG : s.L ≤ s.G) (a : Word) {k : Byte} (hk : k.toNat < (s.pushed x a).L) :
    (s.pushed x a).reg k = s.reg (k + BitVec.ofNat 8 (s.hole x + 1)) := by
  rw [L_pushed] at hk
  have hsum : k + BitVec.ofNat 8 (s.hole x + 1) = BitVec.ofNat 8 (s.hole x + 1 + k.toNat) := by
    rw [BitVec.ofNat_add _ k.toNat, BitVec.ofNat_toNat, BitVec.setWidth_eq, BitVec.add_comm]
  have hkG : k.toNat < (s.pushed x a).G := by
    rw [G_congr (glob_pushed x a)]
    omega
  have hframe : (s.pushed x a).frame = (s.widened (s.hole x)).drop (s.hole x + 1) := rfl
  rw [reg_of_lt hkG, hframe, hsum, reg_ofNat (by omega), ← getD_widened (s.hole x), List.getD_eq_getElem?_getD,
    List.getElem?_drop, ← List.getD_eq_getElem?_getD]

/-! ### A push (R400, 10_state.md R33) -/

theorem pushes_pushed (hLG : s.L ≤ s.G) (x : Byte) (a : Word) : Pushes s x a (.next (s.pushed x a)) :=
  ⟨_, rfl, stack_pushed hLG x a, L_pushed x a, rfl, fun _ hk => reg_pushed_of_lt hLG a hk,
    fun _ hk => reg_congr_of_global (glob_pushed x a) hk, rfl, rfl, fun _ => rfl, rfl, rfl, rfl, rfl⟩

/-- A push completes when `RING_LIMIT` allows what it leaves, and otherwise it is the fault. -/
theorem push_spec (hLG : s.L ≤ s.G) (x : Byte) (a : Word) :
    (s.ringAllows (s.stack.length + hiddenBy s x + 1) (s.L - (hiddenBy s x + 1)) = true →
      Pushes s x a (s.push x a)) ∧
    (s.ringAllows (s.stack.length + hiddenBy s x + 1) (s.L - (hiddenBy s x + 1)) = false →
      Faults s .registerStackOverflow (s.push x a)) := by
  rw [hiddenBy_eq_hole, ← length_stack_pushed hLG x a, ← L_pushed x a, State.push]
  refine ⟨fun h => ?_, fun h => ?_⟩
  · rw [if_pos h]
    exact pushes_pushed hLG x a
  · rw [if_neg (by simp [h])]
    exact faults_fails s _

/-- A `PUSHJ` that goes on running has pushed. -/
theorem eq_pushed_of_pushj {t : State} {k : Wyde} (h : exec (.pushj x k) s = .next t) (ht : t.status = .running) :
    t = s.pushed x (relTarget s.pc (forward16 k)) := by
  obtain ⟨hpushed, -⟩ | rfl := push_cases (a := relTarget s.pc (forward16 k)) h
  · exact hpushed
  · cases ht

/-! ### The frame of a `POP` (R403) -/

/-- The registers below the hole of the top segment. -/
theorem callerFrame_of_segment {below caller : List Word} (hc : caller.length < 256)
    (hs : s.stack = below ++ caller ++ [BitVec.ofNat 64 caller.length]) : s.callerFrame = caller := by
  have hlen : s.stack.length - 1 = (below ++ caller).length := by
    rw [hs, List.length_append, List.length_singleton, Nat.add_sub_cancel]
  rw [State.callerFrame, topHole_of_segment hc hs, hlen, hs, List.take_left, List.length_append, Nat.add_sub_cancel,
    List.drop_left]

theorem frame_popped {below caller : List Word} (hc : caller.length < 256)
    (hs : s.stack = below ++ caller ++ [BitVec.ofNat 64 caller.length]) (x : Byte) (yz : Wyde) :
    (s.popped x yz).frame =
      (caller ++ s.popMain x :: s.frame.take (s.popCount x - 1)).take (min (caller.length + s.popCount x) s.G) := by
  have hframe : (s.popped x yz).frame = (s.callerFrame ++ s.popMain x :: s.frame.take (s.popCount x - 1)).take
      (min (s.topHole + s.popCount x) s.G) := rfl
  rw [hframe, callerFrame_of_segment hc hs, topHole_of_segment hc hs]

theorem glob_popped (x : Byte) (yz : Wyde) : (s.popped x yz).glob = s.glob := rfl

theorem popCount_le (x : Byte) (s : State) : s.popCount x ≤ s.L + 1 := by
  unfold State.popCount
  split <;> omega

theorem popCount_of_le {x : Byte} (h : x.toNat ≤ s.L + 1) : s.popCount x = x.toNat := by
  unfold State.popCount
  split <;> omega

/-- The main result, when there is one. -/
theorem popMain_of_pos (hLG : s.L ≤ s.G) (hx : x.toNat ≠ 0) :
    s.popMain x = if x.toNat ≤ s.L then s.reg (x - 1) else 0 := by
  unfold State.popMain
  by_cases hL : x.toNat ≤ s.L
  · have hpred : (x - 1).toNat = x.toNat - 1 := by bv_omega
    rw [if_pos ⟨hx, hL⟩, if_pos hL, reg_of_lt (by omega), hpred]
  · rw [if_neg (by tauto), if_neg hL]

section Segment

variable {below caller : List Word} (hc : caller.length < 256)
  (hs : s.stack = below ++ caller ++ [BitVec.ofNat 64 caller.length])

include hc hs

theorem L_popped (x : Byte) (yz : Wyde) : (s.popped x yz).L = min (caller.length + s.popCount x) s.G := by
  have hcount := popCount_le x s
  rw [State.L_eq] at hcount ⊢
  rw [frame_popped hc hs, List.length_take, List.length_append, List.length_cons, List.length_take]
  omega

/-- What truncation at G leaves reads as before it. -/
theorem reg_popped {yz : Wyde} {k : Byte} (hk : k.toNat < (s.popped x yz).L) :
    (s.popped x yz).reg k = (caller ++ s.popMain x :: s.frame.take (s.popCount x - 1)).getD k.toNat 0 := by
  rw [L_popped hc hs] at hk
  have hkG : k.toNat < (s.popped x yz).G := by
    rw [G_congr (glob_popped x yz)]
    omega
  rw [reg_of_lt hkG, frame_popped hc hs, List.getD_eq_getElem?_getD, List.getElem?_take_of_lt hk,
    ← List.getD_eq_getElem?_getD]

theorem reg_popped_caller {yz : Wyde} {k : Byte} (hk : k.toNat < (s.popped x yz).L) (h : k.toNat < caller.length) :
    (s.popped x yz).reg k = caller[k.toNat] := by
  rw [reg_popped hc hs hk, List.getD_append _ _ _ _ h, List.getD_eq_getElem _ _ h]

theorem reg_popped_main (hLG : s.L ≤ s.G) {yz : Wyde} {k : Byte} (hk : k.toNat < (s.popped x yz).L)
    (h : k.toNat = caller.length) : (s.popped x yz).reg k = if x.toNat ≤ s.L then s.reg (x - 1) else 0 := by
  have hx : x.toNat ≠ 0 := by
    intro h0
    rw [L_popped hc hs, popCount_of_le (by omega)] at hk
    omega
  rw [reg_popped hc hs hk, List.getD_append_right _ _ _ _ h.ge, h, Nat.sub_self, List.getD_cons_zero,
    popMain_of_pos hLG hx]

theorem reg_popped_result {yz : Wyde} {k : Byte} (hk : k.toNat < (s.popped x yz).L) (h : caller.length < k.toNat) :
    (s.popped x yz).reg k = s.reg (k - BitVec.ofNat 8 (caller.length + 1)) := by
  have hsub : (k - BitVec.ofNat 8 (caller.length + 1)).toNat = k.toNat - caller.length - 1 := by
    have hofNat : (BitVec.ofNat 8 (caller.length + 1)).toNat = caller.length + 1 := by
      rw [BitVec.toNat_ofNat]
      omega
    rw [BitVec.toNat_sub_of_le (by rw [BitVec.le_def]; omega), hofNat, Nat.sub_sub]
  rw [reg_popped hc hs hk]
  rw [L_popped hc hs] at hk
  obtain ⟨i, hi⟩ : ∃ i, k.toNat - caller.length = i + 1 := ⟨k.toNat - caller.length - 1, by omega⟩
  rw [List.getD_append_right _ _ _ _ h.le, reg_of_lt (by omega), hsub, hi, List.getD_cons_succ, Nat.add_sub_cancel,
    List.getD_eq_getElem?_getD, List.getElem?_take_of_lt (by omega), ← List.getD_eq_getElem?_getD]

/-! ### `POP` -/

theorem pops_popped (hLG : s.L ≤ s.G) (x : Byte) (yz : Wyde) : Pops s x yz below caller (.next (s.popped x yz)) :=
  ⟨_, rfl, stack_popped hc hs x yz, L_popped hc hs x yz, rfl,
    fun _ hk => ⟨reg_popped_caller hc hs hk, reg_popped_main hc hs hLG hk, reg_popped_result hc hs hk⟩,
    fun _ hk => reg_congr_of_global (glob_popped x yz) hk, rfl, rfl, fun _ => rfl, rfl, rfl, rfl, rfl⟩

end Segment

theorem pop_of_ne_nil (h : s.stack ≠ []) (x : Byte) (yz : Wyde) : s.pop x yz = .next (s.popped x yz) :=
  if_neg fun he => h (List.isEmpty_iff.1 he)

theorem pop_of_empty (h : s.stack = []) (x : Byte) (yz : Wyde) : s.pop x yz = s.fails .stackUnderflow :=
  if_pos (by rw [h]; rfl)

end Calls

/-! ### The obligations -/

/-- Settles O35, condition by condition, first the branches and then the probable branches. -/
theorem conditionalBranches : Obligations.ConditionalBranches := by
  unfold Obligations.ConditionalBranches
  refine ⟨branchPair_of_branch condHolds_n_iff ?_ ?_, branchPair_of_branch condHolds_z_iff ?_ ?_,
    branchPair_of_branch condHolds_p_iff ?_ ?_, branchPair_of_branch condHolds_od_iff ?_ ?_,
    branchPair_of_branch condHolds_nn_iff ?_ ?_, branchPair_of_branch condHolds_nz_iff ?_ ?_,
    branchPair_of_branch condHolds_np_iff ?_ ?_, branchPair_of_branch condHolds_ev_iff ?_ ?_,
    branchPair_of_branch condHolds_n_iff ?_ ?_, branchPair_of_branch condHolds_z_iff ?_ ?_,
    branchPair_of_branch condHolds_p_iff ?_ ?_, branchPair_of_branch condHolds_od_iff ?_ ?_,
    branchPair_of_branch condHolds_nn_iff ?_ ?_, branchPair_of_branch condHolds_nz_iff ?_ ?_,
    branchPair_of_branch condHolds_np_iff ?_ ?_, branchPair_of_branch condHolds_ev_iff ?_ ?_⟩
  all_goals exact fun _ _ _ => rfl

/-- Settles O36, by the shape of each: `setPc`, `writeX` and `goX`. -/
theorem jumpsAndAddresses : Obligations.JumpsAndAddresses := by
  unfold Obligations.JumpsAndAddresses
  refine ⟨fun s k => ?_, fun s x k hroom => ?_, fun s x y z hroom i a hi => ?_⟩
  · rw [← relTarget_forward24, ← relTarget_backward24]
    exact ⟨goesTo_setPc s _, goesTo_setPc s _⟩
  · rw [← relTarget_forward16, ← relTarget_backward16]
    exact ⟨computes_writeX_zero hroom _, computes_writeX_zero hroom _⟩
  · rw [← alignTarget_eq_append]
    obtain ⟨rfl, rfl⟩ | ⟨rfl, rfl⟩ := hi
    · exact links_goX hroom (s.reg y + s.reg z)
    · exact links_goX hroom (s.reg y + zext8 z)

/-- Settles O37: each of the four forms is `push` to its target. -/
theorem pushesHideRegisters : Obligations.PushesHideRegisters := by
  unfold Obligations.PushesHideRegisters
  intro s x y z k hLG i a hi
  have hpush : exec i s = s.push x a := by
    obtain ⟨rfl, rfl⟩ | ⟨rfl, rfl⟩ | ⟨rfl, rfl⟩ | ⟨rfl, rfl⟩ := hi
    · exact congrArg (s.push x) (relTarget_forward16 s.pc k)
    · exact congrArg (s.push x) (relTarget_backward16 s.pc k)
    · rfl
    · rfl
  rw [hpush]
  exact push_spec hLG x a

/-- Settles O38: a complete segment is there to pop, or the register stack is empty. -/
theorem popReturns : Obligations.PopReturns := by
  unfold Obligations.PopReturns
  refine ⟨fun s x yz below caller hLG hc hs => ?_, fun s x yz hs => ?_⟩
  · show Pops s x yz below caller (s.pop x yz)
    rw [pop_of_ne_nil (hs ▸ List.append_ne_nil_of_right_ne_nil _ (List.cons_ne_nil _ _))]
    exact pops_popped hc hs hLG x yz
  · show Faults s .stackUnderflow (s.pop x yz)
    rw [pop_of_empty hs]
    exact faults_fails s _

/-- Settles O39: the push leaves the caller's registers as a complete segment (O37), which `POP` takes (O38). -/
theorem callingConvention : Obligations.CallingConvention := by
  unfold Obligations.CallingConvention
  intro s t u x n k hs hu hpush hstatus hrun hstack hrJ hG hn hx hxn
  obtain rfl := eq_pushed_of_pushj hpush (hstatus.trans hrun)
  rw [stack_pushed hs.locals, hole_of_lt hx] at hstack
  have hlen : (s.firstRegs x.toNat).length = x.toNat := length_firstRegs x.toNat s
  obtain ⟨v, hpop, hvstack, hvL, -, hlocal, hglobal, -, hvpc, -⟩ :=
    popReturns.1 u n 0 s.stack (s.firstRegs x.toNat) hu.locals (hlen.symm ▸ x.isLt) (hlen.symm ▸ hstack)
  have hL : v.L = x.toNat + n.toNat := by
    rw [hvL, hlen, hG]
    split <;> omega
  refine ⟨v, hpop, ?_, hvstack, hL, fun j hj => ?_, fun hn0 => ?_, fun j hj => ?_, fun j hj => hglobal j (hG ▸ hj)⟩
  · have hreturn : u.sr.rJ + BitVec.ofNat 64 (4 * (0 : Wyde).toNat) = s.pc + 4 := by
      rw [hrJ]
      exact BitVec.add_zero _
    rw [hvpc, hreturn]
    exact alignTarget_of_mod_four (advance_mod_four hs.aligned)
  · obtain ⟨hcaller, -, -⟩ := hlocal j (by omega)
    rw [hcaller (by omega), getElem_firstRegs, BitVec.ofNat_toNat, BitVec.setWidth_eq]
  · have hpos : 0 < n.toNat := by bv_omega
    obtain ⟨-, hmain, -⟩ := hlocal x (by omega)
    rw [hmain hlen.symm]
    split
    · rfl
    · have hpred : (n - 1).toNat = n.toNat - 1 := by bv_omega
      exact (reg_of_marginal (decide_eq_true (by omega))).symm
  · have hsum : (x + 1 + j).toNat = x.toNat + 1 + j.toNat := by
      have := State.G_eq s
      bv_omega
    obtain ⟨-, -, hresult⟩ := hlocal (x + 1 + j) (by omega)
    rw [hresult (by omega), hlen]
    congr 1
    bv_omega

end Sys2Proof.Machine
end

section
/-! Rounded arithmetic (46_floating_point.md R427 to R430, R436 to R439), for O40, O41 and O45. Every instruction of the
family is one `floatX` (`regsDo_of_floatX`) or, with a rounding field, one `roundedX` (`roundedDoes_of_roundedX`), so
what is left of a statement is the operation itself. Sums, products, quotients and integers are each a signed integer
over a natural number, rounded once: `roundedResult_intDiv` is the one rounding step. -/

namespace Sys2Proof.Machine

/-! ### From an operation on values to its instruction -/

/-- An instruction that writes the value and the events of an operation on its two registers. -/
theorem regsDo_of_floatX {form : Byte → Byte → Byte → Instr} {op : State → Word → Word → Word × Byte}
    {P : State → Word → Word → Word → Specials → Prop}
    (hexec : ∀ s x y z, exec (form x y z) s = s.floatX x (op s (s.reg y) (s.reg z)))
    (hP : ∀ s y z, P s y z (op s y z).1 (s.withEvents (op s y z).2)) : RegsDo form P := by
  intro s x y z hroom
  rw [hexec]
  exact ⟨_, _, computes_writeX hroom _ _, hP s _ _⟩

/-- An instruction that writes a word of its two registers, without an event. -/
theorem regsDo_of_writeX {form : Byte → Byte → Byte → Instr} {f : State → Word → Word → Word}
    {P : State → Word → Word → Word → Specials → Prop}
    (hexec : ∀ s x y z, exec (form x y z) s = s.writeX x (f s (s.reg y) (s.reg z)) 0)
    (hP : ∀ s y z, P s y z (f s y z) s.sr) : RegsDo form P :=
  regsDo_of_floatX (op := fun s y z => (f s y z, 0)) hexec fun s y z => (withEvents_zero s).symm ▸ hP s y z

/-- The mode of a legal field Y (30_encoding.md R127). -/
theorem modeY_of_modeOfField {s : State} {y : Byte} {mode : Rounding} (h : ModeOfField s y mode) :
    s.modeY y = some mode := by
  obtain ⟨rfl, rfl⟩ | ⟨rfl, rfl⟩ | ⟨rfl, rfl⟩ | ⟨rfl, rfl⟩ | ⟨rfl, rfl⟩ := h
  all_goals rfl

/-- An instruction with a rounding field that writes the value and the events of an operation on one operand. -/
theorem roundedDoes_of_roundedX {form : Byte → Byte → Byte → Instr} {operand : State → Byte → Word}
    {op : State → Rounding → Word → Word × Byte} {P : State → Rounding → Word → Word → Specials → Prop}
    (hexec : ∀ s x y z, exec (form x y z) s = s.roundedX x y fun mode => op s mode (operand s z))
    (hP : ∀ s mode z, P s mode z (op s mode z).1 (s.withEvents (op s mode z).2)) : RoundedDoes form operand P := by
  intro s x y z mode hroom hmode
  rw [hexec, State.roundedX, modeY_of_modeOfField hmode]
  exact ⟨_, _, computes_writeX hroom _ _, hP s mode _⟩

/-! ### Signed numbers of units (R420) -/

theorem natAbs_signedUnits (neg : Bool) (m : Nat) : (signedUnits neg m).natAbs = m := by
  cases neg <;> simp [signedUnits]

@[simp] theorem signedUnits_eq_zero {neg : Bool} {m : Nat} : signedUnits neg m = 0 ↔ m = 0 := by
  cases neg <;> simp [signedUnits]

/-- A signed number has the sign it is built with, which a zero takes from elsewhere. -/
theorem sign_signedUnits (neg : Bool) (m : Nat) :
    (if signedUnits neg m = 0 then neg else decide (signedUnits neg m < 0)) = neg := by
  simp only [signedUnits_eq_zero]
  split
  · rfl
  · cases neg
    · simp [signedUnits]
    · simp [signedUnits, Nat.pos_of_ne_zero ‹_›]

/-- The sign of a product is the exclusive or of the signs. -/
theorem signedUnits_mul (a b : Bool) (m n : Nat) :
    signedUnits a m * signedUnits b n = signedUnits (a != b) (m * n) := by
  cases a <;> cases b <;> simp [signedUnits]

theorem signedUnits_div (a b : Bool) (m n : Nat) :
    (signedUnits a m : ℚ) / signedUnits b n = (signedUnits (a != b) m : ℚ) / n := by
  cases a <;> cases b <;> simp [signedUnits, neg_div, div_neg]

theorem FloatVal.rat_finite (neg : Bool) (m : Nat) :
    (FloatVal.finite neg m).rat = (signedUnits neg m : ℚ) / 2 ^ binary64.scale := rfl

/-! ### One rounding (R421 to R423) -/

theorem round64_eq (p : Params) (mode : Rounding) (neg : Bool) (r : Exact) :
    round64 p mode neg r =
      (BitVec.ofNat 64 (roundTo binary64 p.tininess mode neg r).1, (roundTo binary64 p.tininess mode neg r).2) := rfl

/-- A correctly rounded pattern fits the word that it is put in. -/
theorem RoundsTo.round64 {p : Params} {mode : Rounding} {neg : Bool} {c : ℚ → Ordering} {r : Exact}
    (h : RoundsTo binary64 p mode neg c (roundTo binary64 p.tininess mode neg r).1
      (roundTo binary64 p.tininess mode neg r).2) :
    RoundsTo binary64 p mode neg c (Machine.round64 p mode neg r).1.toNat (Machine.round64 p mode neg r).2 := by
  have hbits := Nat.mod_eq_of_lt h.bits_lt
  rw [round64_eq, BitVec.toNat_ofNat]
  exact hbits.symm ▸ h

theorem abs_intCast_div (n : Int) (d : Nat) : |(n : ℚ) / d| = (n.natAbs : ℚ) / d := by
  rw [abs_div, Nat.abs_cast, Nat.cast_natAbs, Int.cast_abs]

/-- A signed quotient is correctly rounded, with the given sign when it is a zero. -/
theorem roundedResult_intDiv (p : Params) (mode : Rounding) (zeroNeg : Bool) (n : Int) {d : Nat} (hd : 0 < d) :
    let v := round64 p mode (if n = 0 then zeroNeg else decide (n < 0)) ⟨n.natAbs, d, false⟩
    RoundedResult p mode zeroNeg ((n : ℚ) / d) v.1 v.2 := by
  have hd' : (0 : ℚ) < d := by exact_mod_cast hd
  have hzero : (n : ℚ) / d = 0 ↔ n = 0 := by rw [div_eq_zero_iff, or_iff_left hd'.ne', Int.cast_eq_zero]
  have hneg : (n : ℚ) / d < 0 ↔ n < 0 := by rw [div_lt_iff₀ hd', zero_mul, Int.cast_lt_zero]
  simp only [RoundedResult, hzero, hneg, abs_intCast_div]
  exact (roundsTo_roundTo_div (by decide) (by decide) hd n.natAbs p mode _).round64

/-- The same for a sign and a magnitude. -/
theorem roundedResult_signedUnits (p : Params) (mode : Rounding) (neg : Bool) (m : Nat) {d : Nat} (hd : 0 < d) :
    RoundedResult p mode neg ((signedUnits neg m : ℚ) / d) (round64 p mode neg ⟨m, d, false⟩).1
      (round64 p mode neg ⟨m, d, false⟩).2 := by
  have h := roundedResult_intDiv p mode neg (signedUnits neg m) hd
  rwa [sign_signedUnits, natAbs_signedUnits] at h

/-! ### Sums (R427, R428) -/

theorem roundedResult_add (p : Params) (mode : Rounding) (zeroNeg a b : Bool) (m n : Nat) :
    let v := round64Units p mode zeroNeg (signedUnits a m + signedUnits b n)
    RoundedResult p mode zeroNeg ((FloatVal.finite a m).rat + (FloatVal.finite b n).rat) v.1 v.2 := by
  have h := roundedResult_intDiv p mode zeroNeg (signedUnits a m + signedUnits b n) (Nat.two_pow_pos binary64.scale)
  rw [FloatVal.rat_finite, FloatVal.rat_finite, ← add_div]
  push_cast at h
  exact h

/-- With a NaN among the operands the model gives z's NaN before y's (R424). -/
theorem nanResult_nanBinary (y z : Word) : NanResult y z (nanBinary y z).1 (nanBinary y z).2 := by
  refine ⟨?_, ?_⟩
  · rw [nanBinary]
    split <;> rfl
  · rw [nanBinary]
    simp only [Bool.or_eq_true]
    rfl

/-- `fadd` meets R427, class by class. -/
theorem addRule_fadd (p : Params) (mode : Rounding) (y z : Word) :
    AddRule p mode y z (fadd p mode y z).1 (fadd p mode y z).2 := by
  have hnan := nanResult_nanBinary y z
  unfold AddRule fadd
  cases floatVal y <;> cases floatVal z
  case finite.finite a m b n => exact roundedResult_add p mode _ a b m n
  case inf.inf a b =>
    dsimp only
    split <;> exact ⟨rfl, rfl⟩
  case inf.finite | finite.inf => exact ⟨rfl, rfl⟩
  all_goals exact hnan

theorem fsub_of_nan {y z : Word} (h : (floatVal y).isNan = true ∨ (floatVal z).isNan = true) (p : Params)
    (mode : Rounding) : fsub p mode y z = nanBinary y z := if_pos (by simpa using h)

theorem fsub_of_not_nan {y z : Word} (hy : (floatVal y).isNan = false) (hz : (floatVal z).isNan = false) (p : Params)
    (mode : Rounding) : fsub p mode y z = fadd p mode y (z ^^^ 0x8000000000000000#64) := if_neg (by simp [hy, hz])

/-! ### Products and quotients (R429, R430) -/

theorem roundedResult_mul (p : Params) (mode : Rounding) (a b : Bool) (m n : Nat) :
    let v := round64 p mode (a != b) ⟨m * n, 2 ^ (2 * binary64.scale), false⟩
    RoundedResult p mode (a != b) ((FloatVal.finite a m).rat * (FloatVal.finite b n).rat) v.1 v.2 := by
  have h := roundedResult_signedUnits p mode (a != b) (m * n) (Nat.two_pow_pos (2 * binary64.scale))
  rw [FloatVal.rat_finite, FloatVal.rat_finite, div_mul_div_comm, ← pow_add, ← two_mul, ← Int.cast_mul,
    signedUnits_mul]
  rwa [Nat.cast_pow, Nat.cast_ofNat] at h

theorem roundedResult_div (p : Params) (mode : Rounding) (a b : Bool) (m : Nat) {n : Nat} (hn : n ≠ 0) :
    let v := round64 p mode (a != b) ⟨m, n, false⟩
    RoundedResult p mode (a != b) ((FloatVal.finite a m).rat / (FloatVal.finite b n).rat) v.1 v.2 := by
  have h := roundedResult_signedUnits p mode (a != b) m (Nat.pos_of_ne_zero hn)
  rwa [FloatVal.rat_finite, FloatVal.rat_finite, div_div_div_cancel_right₀ (pow_ne_zero _ two_ne_zero),
    signedUnits_div]

/-- `fmul` meets R429, class by class. -/
theorem mulRule_fmul (p : Params) (mode : Rounding) (y z : Word) :
    MulRule p mode y z (fmul p mode y z).1 (fmul p mode y z).2 := by
  have hnan := nanResult_nanBinary y z
  unfold MulRule fmul
  cases floatVal y <;> cases floatVal z
  case finite.finite a m b n => exact roundedResult_mul p mode a b m n
  case inf.inf a b => exact ⟨infWord_eq_infinityWord _, rfl⟩
  case inf.finite | finite.inf =>
    dsimp only
    split
    · exact ⟨rfl, rfl⟩
    · exact ⟨infWord_eq_infinityWord _, rfl⟩
  all_goals exact hnan

theorem zeroWord_eq_signedZero (neg : Bool) : zeroWord neg = signedZero neg := by cases neg <;> decide

/-- `fdiv` meets R430, class by class. -/
theorem divRule_fdiv (p : Params) (mode : Rounding) (y z : Word) :
    DivRule p mode y z (fdiv p mode y z).1 (fdiv p mode y z).2 := by
  have hnan := nanResult_nanBinary y z
  unfold DivRule fdiv
  cases floatVal y <;> cases floatVal z
  case finite.finite a m b n =>
    dsimp only
    split_ifs with hn
    · exact ⟨rfl, rfl⟩
    · exact ⟨infWord_eq_infinityWord _, rfl⟩
    · exact roundedResult_div p mode a b m hn
  case inf.inf a b => exact ⟨rfl, rfl⟩
  case inf.finite => exact ⟨infWord_eq_infinityWord _, rfl⟩
  case finite.inf => exact ⟨zeroWord_eq_signedZero _, rfl⟩
  all_goals exact hnan

/-! ### Integers (R436 to R439) -/

/-- An integer is rounded to binary64; 0 is +0. -/
theorem roundedResult_flot (p : Params) (mode : Rounding) (n : Int) :
    RoundedResult p mode false n (flot p mode n).1 (flot p mode n).2 := by
  have hsign : (if n = 0 then false else decide (n < 0)) = decide (n < 0) := by
    split
    next h => rw [h]; rfl
    next => rfl
  have h := roundedResult_intDiv p mode false n Nat.one_pos
  rwa [hsign, Nat.cast_one, div_one] at h

/-- An integer is rounded to binary32, and that is widened. -/
theorem exists_widens_sflot (p : Params) (mode : Rounding) (n : Int) :
    ∃ w : Tetra, Widens w (sflot p mode n).1 ∧
      RoundsTo binary32 p mode (decide ((n : ℚ) < 0)) (cmpRat (|(n : ℚ)| * 2 ^ 149)) w.toNat (sflot p mode n).2 := by
  have hround := roundsTo_roundTo_div (f := binary32) (by decide) (by decide) Nat.one_pos n.natAbs p mode
    (decide (n < 0))
  rw [← abs_intCast_div, Nat.cast_one, div_one] at hround
  have hbits := Nat.mod_eq_of_lt hround.bits_lt
  refine ⟨_, widens_loadSf _, ?_⟩
  simp only [Int.cast_lt_zero]
  rw [BitVec.toNat_ofNat]
  exact hbits.symm ▸ hround

/-- What a conversion to binary64 leaves, for the integer that `value` reads in the operand. -/
def ConvertsToLong (value : Word → Int) (s : State) (mode : Rounding) (z v : Word) (sr : Specials) : Prop :=
  ∃ ev, sr = s.withEvents ev ∧ RoundedResult s.params mode false (value z : ℚ) v ev

/-- What a conversion to a short float leaves, for the integer that `value` reads in the operand. -/
def ConvertsToShort (value : Word → Int) (s : State) (mode : Rounding) (z v : Word) (sr : Specials) : Prop :=
  ∃ (w : Tetra) (ev : Byte), sr = s.withEvents ev ∧ Widens w v ∧
    RoundsTo binary32 s.params mode (decide ((value z : ℚ) < 0)) (cmpRat (|(value z : ℚ)| * 2 ^ 149)) w.toNat ev

theorem roundedDoes_flot (value : Word → Int) {form : Byte → Byte → Byte → Instr} {operand : State → Byte → Word}
    (hexec : ∀ s x y z, exec (form x y z) s = s.roundedX x y fun mode => flot s.params mode (value (operand s z))) :
    RoundedDoes form operand (ConvertsToLong value) :=
  roundedDoes_of_roundedX (op := fun s mode z => flot s.params mode (value z)) hexec fun _ mode _ =>
    ⟨_, rfl, roundedResult_flot _ mode _⟩

theorem roundedDoes_sflot (value : Word → Int) {form : Byte → Byte → Byte → Instr} {operand : State → Byte → Word}
    (hexec : ∀ s x y z, exec (form x y z) s = s.roundedX x y fun mode => sflot s.params mode (value (operand s z))) :
    RoundedDoes form operand (ConvertsToShort value) :=
  roundedDoes_of_roundedX (op := fun s mode z => sflot s.params mode (value z)) hexec fun s mode z =>
    have ⟨w, hwiden, hround⟩ := exists_widens_sflot s.params mode (value z)
    ⟨w, _, rfl, hwiden, hround⟩

/-! ### The obligations -/

/-- Settles O40: `FADD` by the classes of its operands, `FSUB` as `FADD` unless an operand is a NaN. -/
theorem floatAddSubtract : Obligations.FloatAddSubtract := by
  unfold Obligations.FloatAddSubtract
  refine ⟨regsDo_of_floatX (op := fun s => fadd s.params s.modeRA) (fun _ _ _ _ => rfl) fun s y z =>
      ⟨_, rfl, addRule_fadd _ _ y z⟩,
    regsDo_of_floatX (op := fun s => fsub s.params s.modeRA) (fun _ _ _ _ => rfl) fun s y z =>
      ⟨_, rfl, fun hnan => ?_, fun hy hz => ?_⟩⟩
  · rw [fsub_of_nan hnan]
    exact nanResult_nanBinary y z
  · rw [fsub_of_not_nan hy hz]
    exact addRule_fadd _ _ y _

/-- Settles O41, by the classes of the operands. -/
theorem floatMultiplyDivide : Obligations.FloatMultiplyDivide := by
  unfold Obligations.FloatMultiplyDivide
  exact ⟨regsDo_of_floatX (op := fun s => fmul s.params s.modeRA) (fun _ _ _ _ => rfl) fun _ y z =>
      ⟨_, rfl, mulRule_fmul _ _ y z⟩,
    regsDo_of_floatX (op := fun s => fdiv s.params s.modeRA) (fun _ _ _ _ => rfl) fun _ y z =>
      ⟨_, rfl, divRule_fdiv _ _ y z⟩⟩

/-- Settles O45: two conversions, each of a signed and of an unsigned operand, which is a register or the field Z. -/
theorem integerToFloat : Obligations.IntegerToFloat := by
  unfold Obligations.IntegerToFloat
  have unsigned (z : Word) : ((z.toNat : Int) : ℚ) = z.toNat := Int.cast_natCast _
  simp only [← unsigned]
  refine ⟨roundedDoes_flot BitVec.toInt ?_, roundedDoes_flot BitVec.toInt ?_,
    roundedDoes_flot (fun z => z.toNat) ?_, roundedDoes_flot (fun z => z.toNat) ?_,
    roundedDoes_sflot BitVec.toInt ?_, roundedDoes_sflot BitVec.toInt ?_,
    roundedDoes_sflot (fun z => z.toNat) ?_, roundedDoes_sflot (fun z => z.toNat) ?_⟩
  all_goals exact fun _ _ _ _ => rfl

end Sys2Proof.Machine
end

section
/-! Remainders, integral values and square roots (46_floating_point.md R431 to R435), for O42, O43 and O44. A remainder
and an integral value are multiples of an operand's last bit and no greater than it, so binary64 has them
(`Format.Holds.of_le`) and the rounding keeps them (`floatVal_round64_of_holds`). `isqrt` is Mathlib's `Nat.sqrt`, which
makes the square root of a quotient one more exact value that `roundTo` rounds correctly (`Exact.denotes_root`). -/

namespace Sys2Proof.Machine

/-! ### Numbers that a format has (R420) -/

/-- The format has the number of units. -/
def Format.Holds (f : Format) (m : Nat) : Prop := ∃ mag, mag < f.infBits ∧ f.units mag = m

section Holds

variable {f : Format}

/-- Fewer units than the first number past the largest finite one. -/
theorem Format.Holds.lt {m : Nat} (h : f.Holds m) : m < f.units f.infBits := by
  obtain ⟨mag, hmag, rfl⟩ := h
  exact f.units_strictMono hmag

/-- Below a number that the format has, it has every multiple of that number's last bit. -/
theorem Format.Holds.of_le {k e m : Nat} (hk : k < 2 ^ (f.fracBits + 1)) (h : f.Holds (k * 2 ^ e)) (hdvd : 2 ^ e ∣ m)
    (hle : m ≤ k * 2 ^ e) : f.Holds m := by
  obtain ⟨j, rfl⟩ := hdvd
  rw [Nat.mul_comm] at hle ⊢
  have hjk : j ≤ k := Nat.le_of_mul_le_mul_right hle (Nat.two_pow_pos e)
  obtain ⟨mag, hmag⟩ := f.exists_units_eq (hjk.trans_lt hk) e
  refine ⟨mag, f.units_strictMono.lt_iff_lt.1 ?_, hmag⟩
  rw [hmag]
  exact hle.trans_lt h.lt

/-- The number that an exponent field below that of infinity and a fraction field stand for (R420). -/
theorem Format.holds_fields {e k : Nat} (he : e < 2 ^ f.expBits - 1) (hk : k < 2 ^ f.fracBits) :
    f.Holds (if e = 0 then k else (2 ^ f.fracBits + k) * 2 ^ (e - 1)) := by
  have hp : 0 < 2 ^ f.fracBits := Nat.two_pow_pos _
  have hdiv : (2 ^ f.fracBits * e + k) / 2 ^ f.fracBits = e := by
    rw [Nat.mul_add_div hp, Nat.div_eq_of_lt hk, Nat.add_zero]
  have hmod : (2 ^ f.fracBits * e + k) % 2 ^ f.fracBits = k := by rw [Nat.mul_add_mod, Nat.mod_eq_of_lt hk]
  refine ⟨2 ^ f.fracBits * e + k, (Nat.div_lt_iff_lt_mul hp).1 (by rwa [hdiv]), ?_⟩
  rw [Format.units, hdiv, hmod]
  obtain rfl | hne := eq_or_ne e 0
  · rw [Nat.mul_zero, Nat.zero_add, if_pos hk, if_pos rfl]
  · have hle := Nat.le_mul_of_pos_right (2 ^ f.fracBits) (Nat.pos_of_ne_zero hne)
    rw [if_neg hne, if_neg (by omega)]

/-- A finite datum is a number that its format has. -/
theorem Format.holds_of_unpack {bits : Nat} {neg : Bool} {m : Nat} (h : f.unpack bits = .finite neg m) : f.Holds m := by
  have hexp := Nat.mod_lt (bits / 2 ^ f.fracBits) (Nat.two_pow_pos f.expBits)
  have hfields (hne : bits / 2 ^ f.fracBits % 2 ^ f.expBits ≠ 2 ^ f.expBits - 1) :=
    f.holds_fields (show bits / 2 ^ f.fracBits % 2 ^ f.expBits < _ by omega)
      (Nat.mod_lt bits (Nat.two_pow_pos f.fracBits))
  rw [Format.unpack] at h
  split at h
  · split at h <;> cases h
  next hne =>
    have hfinite := hfields hne
    split at h <;> cases h
    next hzero => rwa [if_pos hzero] at hfinite
    next hzero => rwa [if_neg hzero] at hfinite

end Holds

theorem exists_significand_of_floatVal {v : Word} {neg : Bool} {m : Nat} (h : floatVal v = .finite neg m) :
    ∃ k e, m = k * 2 ^ e ∧ k < 2 ^ (binary64.fracBits + 1) ∧ binary64.Holds m := by
  obtain ⟨k, e, hm, hk, -⟩ := binary64.exists_of_unpack h
  exact ⟨k, e, hm, hk, Format.holds_of_unpack h⟩

/-- A quotient that is a number of the format is kept, with its sign. -/
theorem floatVal_round64_of_holds {x n d : Nat} (hx : binary64.Holds x) (hd : 0 < d)
    (heq : n * 2 ^ binary64.scale = x * d) (p : Params) (mode : Rounding) (neg : Bool) :
    floatVal (round64 p mode neg ⟨n, d, false⟩).1 = .finite neg x := by
  obtain ⟨mag, hmag, rfl⟩ := hx
  have hround := roundsTo_roundTo_div (f := binary64) (by decide) (by decide) hd n p mode neg
  have hvalue : (n : ℚ) / d * 2 ^ binary64.scale = (binary64.units mag : ℚ) := by
    rw [div_mul_eq_mul_div, div_eq_iff (by positivity)]
    exact_mod_cast heq
  rw [hvalue, cmpRat_eq_cmpReal, Rat.cast_natCast] at hround
  obtain ⟨hbits, -⟩ := hround.of_units hmag
  have hpack : binary64.pack neg mag < 2 ^ 64 := binary64.pack_lt hmag.le neg
  rw [round64_eq, hbits, floatVal, BitVec.toNat_ofNat, Nat.mod_eq_of_lt hpack, binary64.unpack_pack hmag]

/-! ### The remainder by the nearest quotient (R431) -/

/-- The integer nearest to `m / n`, ties to even. -/
def nearestQuotient (m n : Nat) : Nat := roundUnit .near false (m / n) (fracOf (2 * (m % n)) n)

/-- It is the quotient rounded down, or up when the rest is at least a half; a tie goes to the even one. -/
theorem nearestQuotient_cases (m : Nat) {n : Nat} (hn : 0 < n) :
    nearestQuotient m n = m / n ∧ 2 * (m % n) ≤ n ∧ (2 * (m % n) = n → m / n % 2 = 0) ∨
      nearestQuotient m n = m / n + 1 ∧ n ≤ 2 * (m % n) ∧ (2 * (m % n) = n → m / n % 2 = 1) := by
  unfold nearestQuotient fracOf
  split_ifs with hzero hlow hhalf
  · exact .inl ⟨rfl, by omega, by omega⟩
  · exact .inl ⟨rfl, by omega, by omega⟩
  · simp only [roundUnit]
    split
    · exact .inr ⟨rfl, hhalf.ge, fun _ => by assumption⟩
    · exact .inl ⟨rfl, hhalf.le, fun _ => by omega⟩
  · exact .inr ⟨rfl, by omega, by omega⟩

/-- The remainder of the division by the nearest quotient. -/
def nearestRemainder (m n : Nat) : Int := (m : Int) - (nearestQuotient m n * n : Nat)

/-- It is at most half of the divisor, and half only with an even quotient; it is no greater than the dividend. -/
theorem natAbs_nearestRemainder (m : Nat) {n : Nat} (hn : 0 < n) :
    2 * (nearestRemainder m n).natAbs ≤ n ∧
      (2 * (nearestRemainder m n).natAbs = n → nearestQuotient m n % 2 = 0) ∧ (nearestRemainder m n).natAbs ≤ m := by
  have hsplit := Nat.div_add_mod' m n
  have hmod := Nat.mod_lt m hn
  rw [nearestRemainder]
  obtain ⟨hq, hle, heven⟩ | ⟨hq, hle, heven⟩ := nearestQuotient_cases m hn
  · rw [hq]
    omega
  · rw [hq, Nat.add_mul, Nat.one_mul]
    omega

/-- The format has the remainder of any two numbers that it has. -/
theorem holds_nearestRemainder {y z : Word} {a b : Bool} {m n : Nat} (hy : floatVal y = .finite a m)
    (hz : floatVal z = .finite b n) (hn : 0 < n) : binary64.Holds (nearestRemainder m n).natAbs := by
  obtain ⟨hhalf, -, hle⟩ := natAbs_nearestRemainder m hn
  obtain ⟨k, e, rfl, hk, hm⟩ := exists_significand_of_floatVal hy
  obtain ⟨k', e', rfl, hk', hn'⟩ := exists_significand_of_floatVal hz
  have hdvd {c : Nat} (hc : c ≤ e) (hc' : c ≤ e') :
      2 ^ c ∣ (nearestRemainder (k * 2 ^ e) (k' * 2 ^ e')).natAbs := by
    refine Int.natCast_dvd.1 (dvd_sub (Int.natCast_dvd_natCast.2 ?_) (Int.natCast_dvd_natCast.2 ?_))
    · exact (pow_dvd_pow 2 hc).mul_left k
    · exact ((pow_dvd_pow 2 hc').mul_left k').mul_left _
  obtain hee | hee := Nat.le_total e e'
  · exact hm.of_le hk (hdvd le_rfl hee) hle
  · exact hn'.of_le hk' (hdvd hee le_rfl) (by omega)

/-- The remainder with the sign of the dividend `y`, which a zero has too. -/
def signedRemainder (a : Bool) (m n : Nat) : Int := if a then -nearestRemainder m n else nearestRemainder m n

theorem signedUnits_natAbs (zeroNeg : Bool) (r : Int) :
    signedUnits (if r = 0 then zeroNeg else decide (r < 0)) r.natAbs = r := by
  obtain hneg | rfl | hpos := lt_trichotomy r 0
  · rw [if_neg hneg.ne, decide_eq_true hneg, signedUnits, if_pos rfl]
    omega
  · exact signedUnits_eq_zero.2 rfl
  · rw [if_neg hpos.ne', decide_eq_false hpos.not_gt, signedUnits, if_neg Bool.false_ne_true]
    omega

theorem natAbs_signedRemainder (a : Bool) (m n : Nat) :
    (signedRemainder a m n).natAbs = (nearestRemainder m n).natAbs := by
  cases a
  · rfl
  · exact Int.natAbs_neg _

theorem signedRemainder_eq (a b : Bool) (m n : Nat) :
    signedRemainder a m n = signedUnits a m - signedUnits (a != b) (nearestQuotient m n) * signedUnits b n := by
  rw [signedUnits_mul, signedRemainder, nearestRemainder]
  cases a <;> cases b <;> simp [signedUnits] <;> ring

theorem signedUnits_emod_two {a : Bool} {q : Nat} (h : q % 2 = 0) : signedUnits a q % 2 = 0 := by
  cases a <;> simp only [signedUnits] <;> split <;> omega

theorem floatVal_round64Units {r : Int} (hr : binary64.Holds r.natAbs) (p : Params) (mode : Rounding) (zeroNeg : Bool) :
    floatVal (round64Units p mode zeroNeg r).1 = .finite (if r = 0 then zeroNeg else decide (r < 0)) r.natAbs :=
  floatVal_round64_of_holds hr (Nat.two_pow_pos _) rfl p mode _

/-- Of finite numbers, the remainder is rounded without a change. -/
theorem frem_of_finite {y z : Word} {a b : Bool} {m n : Nat} (hy : floatVal y = .finite a m)
    (hz : floatVal z = .finite b n) (p : Params) :
    frem p y z = if n = 0 then invalid p else ((round64Units p .near a (signedRemainder a m n)).1, 0) := by
  rw [frem, hy, hz]
  rfl

theorem remRule_of_finite {y z : Word} {a b : Bool} {m n : Nat} (hy : floatVal y = .finite a m)
    (hz : floatVal z = .finite b n) (p : Params) : RemRule p y z (frem p y z).1 (frem p y z).2 := by
  rw [RemRule, frem_of_finite hy hz, hy, hz]
  dsimp only
  split
  next => exact ⟨rfl, rfl⟩
  next hn =>
    obtain ⟨hhalf, heven, -⟩ := natAbs_nearestRemainder m (Nat.pos_of_ne_zero hn)
    have hholds := holds_nearestRemainder hy hz (Nat.pos_of_ne_zero hn)
    rw [← natAbs_signedRemainder a] at hhalf heven hholds
    refine ⟨rfl, signedUnits (a != b) (nearestQuotient m n), _, _, floatVal_round64Units hholds p .near a, ?_, hhalf,
      fun h => ?_, fun h => ?_⟩
    · rw [signedUnits_natAbs, signedRemainder_eq a b]
    · exact signedUnits_emod_two (heven h)
    · exact if_pos (Int.natAbs_eq_zero.1 h)

/-- `frem` meets R431, class by class. -/
theorem remRule_frem (p : Params) (y z : Word) : RemRule p y z (frem p y z).1 (frem p y z).2 := by
  have hnan := nanResult_nanBinary y z
  cases hy : floatVal y <;> cases hz : floatVal z
  case finite.finite => exact remRule_of_finite hy hz p
  case finite.inf | inf.finite | inf.inf =>
    rw [RemRule, frem, hy, hz]
    exact ⟨rfl, rfl⟩
  all_goals
    rw [RemRule, frem, hy, hz]
    exact hnan

/-! ### Integral values (R433 to R435) -/

theorem cmp_ratCast (x y : ℚ) : cmp (x : ℝ) y = compare x y := by rw [Rat.cast_strictMono.cmp_map_eq, cmp_eq_compare]

/-- Rounding by the part after the point is rounding to an integer, and changes the number unless that part is 0. -/
theorem roundsToInteger_of_places {fr : Frac} {k : Nat} {x : ℚ} (h : fr.Places k (x : ℝ)) (mode : Rounding)
    (neg : Bool) :
    RoundsToInteger mode neg x (roundUnit mode neg k fr) ∧ ((roundUnit mode neg k fr : ℚ) = x ↔ fr = .zero) := by
  have hle : (k : ℚ) ≤ x := by exact_mod_cast h.le
  have hlt : x < k + 1 := by exact_mod_cast h.lt
  have heq : (k : ℚ) = x ↔ fr = .zero := by
    rw [eq_comm, ← h.eq_iff]
    exact_mod_cast Iff.rfl
  have hmid : compare x (k + 1 / 2) = fr.midpoint := by
    rw [← cmp_ratCast, ← h.cmp_midpoint]
    push_cast
    rfl
  refine ⟨⟨k, hle, hlt, ?_⟩, fun hround => ?_, ?_⟩
  · simp only [heq, hmid]
    split
    next hzero => rw [hzero, roundUnit]
    next hne =>
      have hchosen := chosen_midpoint hne mode neg (Nat.zero_mod 2) k
      rwa [Nat.zero_add, Nat.zero_add, eq_comm] at hchosen
  · have hk : roundUnit mode neg k fr = k := by
      have := le_roundUnit mode neg k fr
      have : roundUnit mode neg k fr < k + 1 := by exact_mod_cast hround.trans_lt hlt
      omega
    rwa [hk, heq] at hround
  · rintro rfl
    rw [roundUnit]
    exact heq.2 rfl

theorem roundUnit_le (mode : Rounding) (neg : Bool) (k : Nat) (fr : Frac) : roundUnit mode neg k fr ≤ k + 1 := by
  unfold roundUnit
  split
  all_goals try split
  all_goals omega

/-- The part of a magnitude after the point. -/
def fractionOf (m : Nat) : Frac := fracOf (2 * (m % 2 ^ binary64.scale)) (2 ^ binary64.scale)

theorem roundInteger_eq (mode : Rounding) (neg : Bool) (m : Nat) :
    roundInteger mode neg m =
      (roundUnit mode neg (m / 2 ^ binary64.scale) (fractionOf m), decide (fractionOf m ≠ .zero)) := by
  have hsplit : (Exact.mk m (2 ^ binary64.scale) false).split 0 = (m / 2 ^ binary64.scale, fractionOf m) := by
    simp [Exact.split, fractionOf]
  rw [roundInteger, hsplit]

/-- The event of a magnitude rounded to an integer. -/
def inexactEvent (mode : Rounding) (neg : Bool) (m : Nat) : Byte := if (roundInteger mode neg m).2 then eventX else 0

/-- A magnitude is rounded to an integer, with X when that changes it. -/
theorem roundsToInteger_roundInteger (mode : Rounding) (neg : Bool) (m : Nat) :
    let k := (roundInteger mode neg m).1
    RoundsToInteger mode neg ((m : ℚ) / 2 ^ binary64.scale) k ∧
      inexactEvent mode neg m = if (k : ℚ) = (m : ℚ) / 2 ^ binary64.scale then 0#8 else 0x01#8 := by
  have hplaces : (fractionOf m).Places (m / 2 ^ binary64.scale) (((m : ℚ) / 2 ^ binary64.scale : ℚ) : ℝ) := by
    have h := fracOf_places (n := m) (Nat.two_pow_pos binary64.scale)
    push_cast at h ⊢
    exact h
  obtain ⟨hround, hexact⟩ := roundsToInteger_of_places hplaces mode neg
  rw [inexactEvent, roundInteger_eq]
  refine ⟨hround, ?_⟩
  simp only [hexact, decide_eq_true_eq, ne_eq, ite_not]
  rfl

theorem holds_two_pow_mul_scale : binary64.Holds (2 ^ binary64.fracBits * 2 ^ binary64.scale) :=
  ⟨binary64.scale * 2 ^ binary64.fracBits + 2 ^ binary64.fracBits, by decide,
    binary64.units_eq (.inr le_rfl) (Nat.pow_le_pow_right two_pos (Nat.le_succ _))⟩

/-- A significand of the full width below the point is a number with one bit less. -/
theorem mul_two_pow_lt {s e b c : Nat} (hs : s < 2 ^ (b + 1)) (he : e < c) : s * 2 ^ e < 2 ^ b * 2 ^ c :=
  calc s * 2 ^ e < 2 ^ (b + 1) * 2 ^ e := Nat.mul_lt_mul_of_pos_right hs (Nat.two_pow_pos e)
    _ = 2 ^ b * 2 ^ (e + 1) := by rw [pow_succ, pow_succ]; ring
    _ ≤ 2 ^ b * 2 ^ c := Nat.mul_le_mul_left _ (Nat.pow_le_pow_right two_pos he)

/-- Binary64 has the integer that one of its numbers rounds to: the number itself when its last bit is an integer, and
otherwise one of at most 53 bits. -/
theorem holds_roundInteger {z : Word} {neg : Bool} {m : Nat} (h : floatVal z = .finite neg m) (mode : Rounding) :
    binary64.Holds ((roundInteger mode neg m).1 * 2 ^ binary64.scale) := by
  obtain ⟨s, e, hm, hs, hholds⟩ := exists_significand_of_floatVal h
  rw [roundInteger_eq]
  obtain he | he := Nat.lt_or_ge e binary64.scale |>.symm
  · have hdvd : 2 ^ binary64.scale ∣ m := hm ▸ (pow_dvd_pow 2 he).mul_left s
    have hzero : fractionOf m = .zero := by
      rw [fractionOf, Nat.mod_eq_zero_of_dvd hdvd]
      rfl
    rw [hzero, roundUnit, Nat.div_mul_cancel hdvd]
    exact hholds
  · have hsmall : m / 2 ^ binary64.scale < 2 ^ binary64.fracBits := by
      have hpos : 0 < 2 ^ binary64.scale := Nat.two_pow_pos _
      rw [Nat.div_lt_iff_lt_mul hpos, hm]
      exact mul_two_pow_lt hs he
    have hround := (roundUnit_le mode neg (m / 2 ^ binary64.scale) (fractionOf m)).trans hsmall
    exact Format.Holds.of_le (k := 2 ^ binary64.fracBits) (e := binary64.scale)
      (Nat.pow_lt_pow_right one_lt_two (Nat.lt_succ_self _)) holds_two_pow_mul_scale (Nat.dvd_mul_left _ _)
      (Nat.mul_le_mul_right _ hround)

/-- With a NaN as its operand a unary operation gives it quieted (R424). -/
theorem nanUnary_eq {z : Word} {quiet : Bool} (h : floatVal z = .nan quiet) :
    nanUnary z = (z ||| 0x0008000000000000#64, if quiet then 0#8 else 0x10#8) := by
  rw [nanUnary, h]
  cases quiet <;> rfl

theorem scale_binary64_eq : binary64.scale = 1074 := rfl

theorem fint_of_finite {z : Word} {neg : Bool} {m : Nat} (h : floatVal z = .finite neg m) (p : Params)
    (mode : Rounding) :
    fint p mode z = ((round64 p .near neg ⟨(roundInteger mode neg m).1, 1, false⟩).1, inexactEvent mode neg m) := by
  rw [fint, h]
  rfl

/-- `fint` meets R433, class by class. -/
theorem intRule_fint (p : Params) (mode : Rounding) (z : Word) :
    IntRule mode z (fint p mode z).1 (fint p mode z).2 := by
  cases h : floatVal z
  case finite neg m =>
    obtain ⟨hround, hevent⟩ := roundsToInteger_roundInteger mode neg m
    have hvalue := floatVal_round64_of_holds (holds_roundInteger h mode) Nat.one_pos (Nat.mul_one _).symm p .near neg
    rw [scale_binary64_eq] at hround hevent hvalue
    rw [IntRule, fint_of_finite h, h]
    exact ⟨_, hround, hvalue, hevent⟩
  case inf neg =>
    rw [IntRule, fint, h]
    exact ⟨rfl, rfl⟩
  case nan quiet =>
    rw [IntRule, fint, h]
    dsimp only
    rw [nanUnary_eq h]
    exact ⟨rfl, rfl⟩

theorem not_fitsSigned_iff (n : Int) : ¬fitsSigned 64 n ↔ n < -2 ^ 63 ∨ 2 ^ 63 ≤ n := by
  simp only [fitsSigned]
  omega

theorem ffix_of_finite {z : Word} {neg : Bool} {m : Nat} (h : floatVal z = .finite neg m) (signed : Bool)
    (mode : Rounding) :
    let n := signedUnits neg (roundInteger mode neg m).1
    ffix signed mode z =
      (wrap64 n, inexactEvent mode neg m ||| (if signed && !decide (fitsSigned 64 n) then eventW else 0)) := by
  rw [ffix, h]
  rfl

/-- `ffix` meets R434 and R435, class by class. -/
theorem fixRule_ffix (signed : Bool) (mode : Rounding) (z : Word) :
    FixRule signed mode z (ffix signed mode z).1 (ffix signed mode z).2 := by
  cases h : floatVal z
  case finite neg m =>
    obtain ⟨hround, hevent⟩ := roundsToInteger_roundInteger mode neg m
    rw [scale_binary64_eq] at hround hevent
    rw [FixRule, ffix_of_finite h, h]
    refine ⟨_, hround, rfl, ?_⟩
    simp only [hevent, ← not_fitsSigned_iff, Bool.and_eq_true, Bool.not_eq_true', decide_eq_false_iff_not]
    rfl
  case inf | nan =>
    rw [FixRule, ffix, h]
    exact ⟨rfl, rfl⟩

/-! ### The integer square root -/

/-- The bits found so far and the bound on the rest enclose the root. -/
theorem isqrtBits_bounds (n : Nat) : ∀ b r : Nat, r * r ≤ n → n < (r + 2 ^ b) * (r + 2 ^ b) →
    isqrtBits n b r * isqrtBits n b r ≤ n ∧ n < (isqrtBits n b r + 1) * (isqrtBits n b r + 1)
  | 0, r, hlo, hhi => ⟨hlo, hhi⟩
  | b + 1, r, hlo, hhi => by
    rw [isqrtBits]
    split
    next h =>
      refine isqrtBits_bounds n b _ h ?_
      rwa [Nat.add_assoc, ← Nat.two_mul, ← pow_succ']
    next h => exact isqrtBits_bounds n b r hlo (Nat.not_le.1 h)

theorem isqrt_eq_sqrt (n : Nat) : isqrt n = n.sqrt := by
  have hn : n < (0 + 2 ^ (n.log2 / 2 + 1)) * (0 + 2 ^ (n.log2 / 2 + 1)) := by
    rw [Nat.zero_add, ← pow_add]
    exact Nat.lt_log2_self.trans_le (Nat.pow_le_pow_right two_pos (by omega))
  obtain ⟨hlo, hhi⟩ := isqrtBits_bounds n _ 0 (Nat.zero_le n) hn
  exact Nat.eq_sqrt.2 ⟨hlo, hhi⟩

/-! ### Square roots as exact values (R421, R432) -/

/-- Where a number lies between the integers around it, by its square `n / d`. -/
def rootFrac (n d : Nat) : Frac :=
  let k := isqrt (n / d)
  if k * k * d = n then .zero
  else if 4 * n < (2 * k + 1) * (2 * k + 1) * d then .low
  else if 4 * n = (2 * k + 1) * (2 * k + 1) * d then .half
  else .high

theorem rootFrac_places {n d : Nat} (hd : 0 < d) {x : ℝ} (hx : 0 ≤ x) (hsq : x * x * d = n) :
    (rootFrac n d).Places (isqrt (n / d)) x := by
  have hd' : (0 : ℝ) < d := by exact_mod_cast hd
  have habove {y : ℝ} (hy : 0 ≤ y) : x < y ↔ (n : ℝ) < y * y * d := by
    rw [← hsq, mul_lt_mul_iff_left₀ hd', ← mul_self_lt_mul_self_iff hx hy]
  have hbelow {y : ℝ} (hy : 0 ≤ y) : y < x ↔ y * y * d < n := by
    rw [← hsq, mul_lt_mul_iff_left₀ hd', ← mul_self_lt_mul_self_iff hy hx]
  have hequal {y : ℝ} (hy : 0 ≤ y) : x = y ↔ (n : ℝ) = y * y * d := by
    rw [← hsq, mul_left_inj' hd'.ne', mul_self_inj hx hy]
  have hlo : isqrt (n / d) * isqrt (n / d) * d ≤ n := by
    rw [isqrt_eq_sqrt, ← Nat.le_div_iff_mul_le hd]
    exact Nat.sqrt_le _
  have hhi : n < (isqrt (n / d) + 1) * (isqrt (n / d) + 1) * d := by
    rw [isqrt_eq_sqrt, ← Nat.div_lt_iff_lt_mul hd]
    exact Nat.lt_succ_sqrt _
  have hmid (k : Nat) : (k + 1 / 2 : ℝ) * (k + 1 / 2) * d = ((2 * k + 1) * (2 * k + 1) * d : Nat) / 4 := by
    push_cast
    ring
  rw [rootFrac]
  generalize isqrt (n / d) = k at *
  have hnext : x < k + 1 := (habove (by positivity)).2 (by exact_mod_cast hhi)
  split_ifs with hzero hlow hhalf
  · exact (hequal k.cast_nonneg).2 (by exact_mod_cast hzero.symm)
  · refine ⟨(hbelow k.cast_nonneg).2 (by exact_mod_cast hlo.lt_of_ne hzero), (habove (by positivity)).2 ?_⟩
    rw [hmid, lt_div_iff₀ four_pos]
    exact_mod_cast Nat.mul_comm 4 n ▸ hlow
  · refine (hequal (by positivity)).2 ?_
    rw [hmid, eq_div_iff four_ne_zero]
    exact_mod_cast Nat.mul_comm 4 n ▸ hhalf
  · refine ⟨(hbelow (by positivity)).2 ?_, hnext⟩
    rw [hmid, div_lt_iff₀ four_pos]
    exact_mod_cast (by omega : _ < n * 4)

theorem split_root (n d : Nat) (q : Int) :
    (Exact.mk n d true).split q =
      (isqrt (n * 2 ^ (-(2 * q)).toNat / (d * 2 ^ (2 * q).toNat)),
        rootFrac (n * 2 ^ (-(2 * q)).toNat) (d * 2 ^ (2 * q).toNat)) := rfl

theorem log2_root (n d : Nat) : (Exact.mk n d true).log2 = (Exact.mk n d false).log2 / 2 := rfl

/-- The root of a positive quotient denotes itself. -/
theorem Exact.denotes_root {n d : Nat} (hn : 0 < n) (hd : 0 < d) :
    (Exact.mk n d true).Denotes √((n : ℝ) / d) := by
  have hquotient := Exact.denotes_div hn hd
  have hd' : (0 : ℝ) < d := by exact_mod_cast hd
  have hsq : √((n : ℝ) / d) * √((n : ℝ) / d) = n / d := Real.mul_self_sqrt (by positivity)
  refine ⟨hn.ne', ?_, ?_, fun q => ?_⟩
  · refine Real.le_sqrt_of_sq_le (le_trans ?_ hquotient.log2_le)
    rw [log2_root, ← zpow_natCast, ← zpow_mul]
    exact zpow_le_zpow_right₀ one_le_two (by omega)
  · refine (Real.sqrt_lt' (by positivity)).2 (hquotient.lt_log2.trans_le ?_)
    rw [log2_root, ← zpow_natCast, ← zpow_mul]
    exact zpow_le_zpow_right₀ one_le_two (by omega)
  · rw [split_root]
    refine rootFrac_places (by positivity) (by positivity) ?_
    rw [div_mul_div_comm, hsq, ← zpow_add₀ two_ne_zero, ← two_mul, two_zpow_eq_div]
    push_cast
    field_simp

theorem cmpRoot_eq_cmpReal {r : ℚ} (hr : 0 ≤ r) : cmpRoot r = cmpReal √(r : ℝ) := by
  have hr' : (0 : ℝ) ≤ r := by exact_mod_cast hr
  funext q
  rw [cmpRoot, cmpReal]
  split
  next hq =>
    have hq' : (q : ℝ) < 0 := by exact_mod_cast hq
    exact ((cmp_eq_gt_iff _ _).2 (hq'.trans_le (Real.sqrt_nonneg _))).symm
  next hq =>
    have hq' : (0 : ℝ) ≤ q := by exact_mod_cast not_lt.1 hq
    have hmono : StrictMonoOn (fun x : ℝ => x * x) (Set.Ici 0) := fun x hx y _ hxy => mul_self_lt_mul_self hx hxy
    rw [cmpRat_eq_cmpReal, cmpReal, ← hmono.cmp_map_eq (Real.sqrt_nonneg _) hq', Real.mul_self_sqrt hr', Rat.cast_mul]

/-- The square root of a positive number of units is correctly rounded. -/
theorem roundsTo_round64_root {m : Nat} (hm : 0 < m) (p : Params) (mode : Rounding) (neg : Bool) :
    let v := round64 p mode neg ⟨m, 2 ^ binary64.scale, true⟩
    RoundsTo binary64 p mode neg (cmpRoot (m * 2 ^ binary64.scale)) v.1.toNat v.2 := by
  have hround := roundsTo_roundTo (f := binary64) (by decide) (by decide)
    (Exact.denotes_root hm (Nat.two_pow_pos binary64.scale)) p mode neg
  have hscale : √((m : ℝ) / (2 ^ binary64.scale : Nat)) * 2 ^ binary64.scale = √((m * 2 ^ binary64.scale : ℚ) : ℝ) := by
    refine ((Real.sqrt_eq_iff_mul_self_eq (by positivity) (by positivity)).2 ?_).symm
    rw [mul_mul_mul_comm, Real.mul_self_sqrt (by positivity)]
    push_cast
    field_simp
  rw [hscale, ← cmpRoot_eq_cmpReal (by positivity)] at hround
  exact hround.round64

/-- `fsqrt` meets R432, class by class. -/
theorem sqrtRule_fsqrt (p : Params) (mode : Rounding) (z : Word) :
    SqrtRule p mode z (fsqrt p mode z).1 (fsqrt p mode z).2 := by
  cases h : floatVal z
  case finite neg m =>
    rw [SqrtRule, fsqrt, h]
    dsimp only
    split_ifs with hm
    · exact ⟨rfl, rfl⟩
    · exact ⟨rfl, rfl⟩
    · exact roundsTo_round64_root (Nat.pos_of_ne_zero hm) p mode false
  case inf neg =>
    rw [SqrtRule, fsqrt, h]
    dsimp only
    split <;> exact ⟨rfl, rfl⟩
  case nan quiet =>
    rw [SqrtRule, fsqrt, h]
    dsimp only
    rw [nanUnary_eq h]
    exact ⟨rfl, rfl⟩

/-! ### The obligations -/

/-- Settles O42, by the classes of the operands. -/
theorem floatRemainder : Obligations.FloatRemainder := by
  unfold Obligations.FloatRemainder
  exact regsDo_of_floatX (op := fun s => frem s.params) (fun _ _ _ _ => rfl) fun _ y z => ⟨_, rfl, remRule_frem _ y z⟩

/-- Settles O43, by the class of the operand. -/
theorem squareRootAndIntegral : Obligations.SquareRootAndIntegral := by
  unfold Obligations.SquareRootAndIntegral
  exact ⟨roundedDoes_of_roundedX (op := fun s => fsqrt s.params) (fun _ _ _ _ => rfl) fun _ mode z =>
      ⟨_, rfl, sqrtRule_fsqrt _ mode z⟩,
    roundedDoes_of_roundedX (op := fun s => fint s.params) (fun _ _ _ _ => rfl) fun _ mode z =>
      ⟨_, rfl, intRule_fint _ mode z⟩⟩

/-- Settles O44, by the class of the operand. -/
theorem floatToInteger : Obligations.FloatToInteger := by
  unfold Obligations.FloatToInteger
  exact ⟨roundedDoes_of_roundedX (op := fun _ => ffix true) (fun _ _ _ _ => rfl) fun _ mode z =>
      ⟨_, rfl, fixRule_ffix true mode z⟩,
    roundedDoes_of_roundedX (op := fun _ => ffix false) (fun _ _ _ _ => rfl) fun _ mode z =>
      ⟨_, rfl, fixRule_ffix false mode z⟩⟩

end Sys2Proof.Machine
end

section
/-! Comparisons (46_floating_point.md R440 to R447), for O46, O47 and O48. `fcomp` is the order of the positions of the
two data (`fcomp_eq_compare_position`), because a finite one stands between the infinities. The neighbourhoods of the model
are those of the statements (`inNeighbourhood_iff_near`), by the class of the centre and of the tolerance, and with the
tolerance 0 they say that the two data are equal (`inNeighbourhood_zero_iff`). -/

namespace Sys2Proof.Machine

/-! ### The order of the data (R440) -/

/-- The greatest position, that of plus infinity. -/
theorem units_infBits_binary64 : binary64.units binary64.infBits = 2 ^ 2098 := by
  have hexp : binary64.fracBits + (2 ^ binary64.expBits - 2) = 2098 := rfl
  rw [binary64.units_infBits (by decide), ← pow_add, hexp]

/-- Every finite number lies strictly between the infinities. -/
theorem position_bounds {v : Word} {neg : Bool} {m : Nat} (h : floatVal v = .finite neg m) :
    -2 ^ 2098 < signedUnits neg m ∧ signedUnits neg m < 2 ^ 2098 := by
  have hlt := Nat.cast_lt (α := Int).2 (Format.holds_of_unpack h).lt
  rw [units_infBits_binary64, Nat.cast_pow, Nat.cast_ofNat] at hlt
  generalize (2 : Int) ^ 2098 = top at *
  cases neg
  · rw [signedUnits, if_neg Bool.false_ne_true]
    omega
  · rw [signedUnits, if_pos rfl]
    omega

theorem position_inf (b : Bool) : (FloatVal.inf b).position = if b then -2 ^ 2098 else 2 ^ 2098 := rfl

/-- The order of two data that are no NaN is that of their positions. -/
theorem fcomp_eq_compare_position {y z : Word} (hy : (floatVal y).isNan = false) (hz : (floatVal z).isNan = false) :
    fcomp y z = some (compare (floatVal y).position (floatVal z).position) := by
  have htop : (0 : Int) < 2 ^ 2098 := by positivity
  rw [fcomp]
  cases hyv : floatVal y <;> cases hzv : floatVal z
  case finite.finite => rfl
  case finite.inf a m b =>
    obtain ⟨hlo, hhi⟩ := position_bounds hyv
    rw [position_inf, FloatVal.position, FloatVal.cmp]
    cases b
    · exact congrArg some (compare_lt_iff_lt.2 hhi).symm
    · exact congrArg some (compare_gt_iff_gt.2 hlo).symm
  case inf.finite a b n =>
    obtain ⟨hlo, hhi⟩ := position_bounds hzv
    rw [position_inf, FloatVal.position, FloatVal.cmp]
    cases a
    · exact congrArg some (compare_gt_iff_gt.2 hhi).symm
    · exact congrArg some (compare_lt_iff_lt.2 hlo).symm
  case inf.inf a b =>
    rw [position_inf, position_inf, FloatVal.cmp]
    generalize (2 : Int) ^ 2098 = top at htop
    cases a <;> cases b
    case false.false | true.true => exact congrArg some (compare_eq_iff_eq.2 rfl).symm
    case false.true => exact congrArg some (compare_gt_iff_gt.2 (by show -top < top; omega)).symm
    case true.false => exact congrArg some (compare_lt_iff_lt.2 (by show -top < top; omega)).symm
  all_goals simp [hyv, hzv, FloatVal.isNan] at hy hz

theorem FloatVal.isNan_iff {v : FloatVal} : v.isNan = true ↔ ∃ quiet, v = .nan quiet := by
  cases v <;> simp [FloatVal.isNan]

/-- A NaN among the two is unordered. -/
theorem fcomp_eq_none {y z : Word} (h : (floatVal y).isNan = true ∨ (floatVal z).isNan = true) : fcomp y z = none := by
  rw [fcomp]
  obtain h | h := h <;> obtain ⟨quiet, h⟩ := FloatVal.isNan_iff.1 h <;> rw [h]
  · rfl
  · cases floatVal y <;> rfl

theorem fcomp_eq_none_iff {y z : Word} :
    fcomp y z = none ↔ (floatVal y).isNan = true ∨ (floatVal z).isNan = true := by
  refine ⟨fun h => ?_, fcomp_eq_none⟩
  by_contra hnan
  rw [not_or, Bool.not_eq_true, Bool.not_eq_true] at hnan
  obtain ⟨hy, hz⟩ := hnan
  rw [fcomp_eq_compare_position hy hz] at h
  cases h

theorem fcomp_eq_eq_iff {y z : Word} :
    fcomp y z = some .eq ↔
      (floatVal y).isNan = false ∧ (floatVal z).isNan = false ∧ (floatVal y).position = (floatVal z).position := by
  constructor
  · intro h
    have hnan : ¬fcomp y z = none := by rw [h]; exact Option.some_ne_none _
    rw [fcomp_eq_none_iff, not_or, Bool.not_eq_true, Bool.not_eq_true] at hnan
    obtain ⟨hy, hz⟩ := hnan
    rw [fcomp_eq_compare_position hy hz, Option.some_inj, compare_eq_iff_eq] at h
    exact ⟨hy, hz, h⟩
  · rintro ⟨hy, hz, heq⟩
    rw [fcomp_eq_compare_position hy hz, compare_eq_iff_eq.2 heq]

/-! ### `FCMP`, `FUN` and `FEQL` (R441 to R443) -/

theorem fcmp_of_nan {y z : Word} (h : (floatVal y).isNan = true ∨ (floatVal z).isNan = true) :
    fcmp y z = (0, 0x10#8) := by
  rw [fcmp, fcomp_eq_none h]
  rfl

theorem fcmp_of_not_nan {y z : Word} (hy : (floatVal y).isNan = false) (hz : (floatVal z).isNan = false) :
    fcmp y z = (orderWord (floatVal y).position (floatVal z).position, 0) := by
  rw [fcmp, fcomp_eq_compare_position hy hz, ← orderingWord_compare]

theorem boolWord_decide (p : Prop) [Decidable p] : boolWord (decide p) = if p then 1 else 0 := by
  rw [boolWord]
  exact if_congr decide_eq_true_iff rfl rfl

/-! ### The neighbourhoods (R444) -/

theorem abs_rat_finite (a : Bool) (m : Nat) : |(FloatVal.finite a m).rat| = (m : ℚ) / 2 ^ binary64.scale := by
  have h := abs_intCast_div (signedUnits a m) (2 ^ binary64.scale)
  rwa [natAbs_signedUnits, Nat.cast_pow, Nat.cast_ofNat] at h

/-- The exponent of a finite number other than 0, in the reals. -/
theorem exponent_iff {m : Nat} (hm : m ≠ 0) (a : Bool) (k : ℤ) :
    (2 : ℚ) ^ k ≤ |(FloatVal.finite a m).rat| ∧ |(FloatVal.finite a m).rat| < 2 ^ (k + 1) ↔
      k = m.log2 - binary64.scale := by
  have hscale : (0 : ℚ) < 2 ^ binary64.scale := by positivity
  have hlo : (2 : ℚ) ^ ((m.log2 : ℤ) - binary64.scale) ≤ m / 2 ^ binary64.scale := by
    rw [zpow_sub₀ two_ne_zero, zpow_natCast, zpow_natCast]
    gcongr
    exact_mod_cast Nat.log2_self_le hm
  have hhi : (m : ℚ) / 2 ^ binary64.scale < 2 ^ ((m.log2 : ℤ) - binary64.scale + 1) := by
    rw [sub_add_eq_add_sub, zpow_sub₀ two_ne_zero, ← Nat.cast_succ, zpow_natCast, zpow_natCast]
    gcongr
    exact_mod_cast Nat.lt_log2_self
  rw [abs_rat_finite]
  refine ⟨fun ⟨hle, hlt⟩ => ?_, fun h => h ▸ ⟨hlo, hhi⟩⟩
  have hbelow := (zpow_lt_zpow_iff_right₀ (one_lt_two (α := ℚ))).1 (hle.trans_lt hhi)
  have habove := (zpow_lt_zpow_iff_right₀ (one_lt_two (α := ℚ))).1 (hlo.trans_lt hlt)
  omega

/-- The distance of two finite numbers, in the reals. -/
theorem abs_rat_sub (a b : Bool) (m n : Nat) :
    |(FloatVal.finite b n).rat - (FloatVal.finite a m).rat| =
      ((signedUnits b n - signedUnits a m).natAbs : ℚ) / 2 ^ binary64.scale := by
  have h := abs_intCast_div (signedUnits b n - signedUnits a m) (2 ^ binary64.scale)
  rw [FloatVal.rat_finite, FloatVal.rat_finite, ← sub_div]
  push_cast at h ⊢
  exact h

theorem rat_tolerance (eps : Nat) : (FloatVal.finite false eps).rat = (eps : ℚ) / 2 ^ binary64.scale := by
  rw [FloatVal.rat_finite, signedUnits, if_neg Bool.false_ne_true, Int.cast_natCast]

/-- The distance against the radius, in units. -/
theorem distance_le_radius_iff (d eps l c : Nat) :
    (d : ℚ) / 2 ^ c ≤ eps / 2 ^ c * 2 ^ ((l : ℤ) - c + 1) ↔ d * 2 ^ c ≤ eps * 2 ^ (l + 1) := by
  rw [sub_add_eq_add_sub, zpow_sub₀ two_ne_zero, ← Nat.cast_succ, zpow_natCast, zpow_natCast, div_mul_div_comm,
    div_le_div_iff₀ (by positivity) (by positivity), ← mul_assoc, mul_le_mul_iff_left₀ (by positivity)]
  exact_mod_cast Iff.rfl

theorem near_finite_iff {m : Nat} (hm : m ≠ 0) (a b : Bool) (n eps : Nat) :
    Near (.finite false eps) (.finite a m) (.finite b n) ↔
      (signedUnits b n - signedUnits a m).natAbs * 2 ^ binary64.scale ≤ eps * 2 ^ (m.log2 + 1) := by
  rw [← distance_le_radius_iff, ← abs_rat_sub, ← rat_tolerance]
  unfold Near
  simp only [if_neg hm, ← and_assoc, exponent_iff hm, exists_eq_left]

/-- A tolerance that R444 compares with: no NaN, and no sign bit. -/
def FloatVal.IsTolerance (e : FloatVal) : Prop := (∃ eps, e = .finite false eps) ∨ e = .inf false

theorem rat_tolerance_lt_iff (eps c : Nat) :
    (FloatVal.finite false eps).rat < 2 ^ c ↔ eps < 2 ^ (binary64.scale + c) := by
  rw [rat_tolerance, div_lt_iff₀ (by positivity), ← pow_add, Nat.add_comm c]
  exact_mod_cast Iff.rfl

theorem near_inf_iff (a : Bool) (eps : Nat) {x : FloatVal} (hx : x.isNan = false) :
    Near (.finite false eps) (.inf a) x ↔
      if eps < 2 ^ binary64.scale then x = .inf a
      else if eps < 2 ^ (binary64.scale + 1) then x ≠ .inf !a else True := by
  have hone := rat_tolerance_lt_iff eps 0
  have htwo := rat_tolerance_lt_iff eps 1
  rw [pow_zero, Nat.add_zero] at hone
  rw [pow_one] at htwo
  simp only [← hone, ← htwo]
  cases x with
  | nan => cases hx
  | inf | finite => rfl

theorem inNeighbourhood_of_zero (e : FloatVal) (a : Bool) {x : FloatVal} (hx : x.isNan = false) :
    inNeighbourhood e (.finite a 0) x = decide (x = .finite false 0 ∨ x = .finite true 0) := by
  cases x with
  | nan => cases hx
  | inf | finite => rfl

theorem inNeighbourhood_of_finite {m : Nat} (hm : m ≠ 0) (a b c : Bool) (n eps : Nat) :
    inNeighbourhood (.finite c eps) (.finite a m) (.finite b n) =
      decide ((signedUnits b n - signedUnits a m).natAbs * 2 ^ binary64.scale ≤ eps * 2 ^ (m.log2 + 1)) := by
  unfold inNeighbourhood
  exact if_neg hm

theorem inNeighbourhood_finite_inf {m : Nat} (hm : m ≠ 0) (a b c : Bool) (eps : Nat) :
    inNeighbourhood (.finite c eps) (.finite a m) (.inf b) = false := by
  unfold inNeighbourhood
  exact if_neg hm

theorem inNeighbourhood_of_inf (a c : Bool) (eps : Nat) {x : FloatVal} (hx : x.isNan = false) :
    inNeighbourhood (.finite c eps) (.inf a) x =
      if eps < 2 ^ binary64.scale then decide (x = .inf a)
      else if eps < 2 ^ (binary64.scale + 1) then decide (x ≠ .inf !a) else true := by
  unfold inNeighbourhood
  cases x with
  | nan => cases hx
  | inf | finite => rfl

theorem inNeighbourhood_infinite {m : Nat} (hm : m ≠ 0) (a c : Bool) {x : FloatVal} (hx : x.isNan = false) :
    inNeighbourhood (.inf c) (.finite a m) x = true := by
  unfold inNeighbourhood
  cases x with
  | nan => cases hx
  | inf | finite => exact if_neg hm

theorem near_infinite {m : Nat} (hm : m ≠ 0) (a c : Bool) {x : FloatVal} (hx : x.isNan = false) :
    Near (.inf c) (.finite a m) x := by
  unfold Near
  cases x with
  | nan => cases hx
  | inf | finite => simp only [if_neg hm]

theorem not_near_finite_inf {m : Nat} (hm : m ≠ 0) (a b c : Bool) (eps : Nat) :
    ¬Near (.finite c eps) (.finite a m) (.inf b) := by
  unfold Near
  simp only [if_neg hm, not_false_eq_true]

/-- The neighbourhoods of the model are those of the statements. -/
theorem inNeighbourhood_iff_near {e : FloatVal} (he : e.IsTolerance) {x : FloatVal} (hx : x.isNan = false)
    (u : FloatVal) : inNeighbourhood e u x = true ↔ Near e u x := by
  cases u with
  | nan => exact iff_of_false Bool.false_ne_true id
  | finite a m =>
    obtain rfl | hm := eq_or_ne m 0
    · rw [inNeighbourhood_of_zero e a hx, decide_eq_true_iff]
      cases x with
      | nan => cases hx
      | inf | finite => exact Iff.rfl
    obtain ⟨eps, rfl⟩ | rfl := he
    · cases x with
      | nan => cases hx
      | inf b =>
        rw [inNeighbourhood_finite_inf hm]
        exact iff_of_false Bool.false_ne_true (not_near_finite_inf hm _ _ _ _)
      | finite => rw [near_finite_iff hm, inNeighbourhood_of_finite hm, decide_eq_true_iff]
    · exact iff_of_true (inNeighbourhood_infinite hm a false hx) (near_infinite hm a false hx)
  | inf a =>
    obtain ⟨eps, rfl⟩ | rfl := he
    · rw [near_inf_iff a eps hx, inNeighbourhood_of_inf a false eps hx]
      split_ifs
      · exact decide_eq_true_iff
      · exact decide_eq_true_iff
      · exact iff_of_true rfl trivial
    · cases x with
      | nan => cases hx
      | inf | finite => exact iff_of_true rfl trivial

/-! ### The comparisons with a tolerance (R444 to R447) -/

theorem unorderedE_iff (e y z : Word) : unorderedE e y z = true ↔ Unordered e y z := by
  simp only [unorderedE, Unordered, Bool.or_eq_true, or_assoc]

/-- The sign bit of a word is the sign of its datum. -/
theorem isTolerance_of_msb {e : Word} (hnan : (floatVal e).isNan = false) (hmsb : e.msb = false) :
    (floatVal e).IsTolerance := by
  have hsign : decide (e.toNat / binary64.signBit % 2 = 1) = false := by
    have he : e.toNat < 2 ^ 63 := BitVec.msb_eq_false_iff_two_mul_lt.1 hmsb |> fun h => by omega
    rw [show binary64.signBit = 2 ^ 63 from rfl, Nat.div_eq_of_lt he]
    rfl
  rw [floatVal, Format.unpack, hsign] at hnan ⊢
  split_ifs at hnan ⊢
  · exact .inr rfl
  · cases hnan
  · exact .inl ⟨_, rfl⟩
  · exact .inl ⟨_, rfl⟩

/-- What an ordered comparison has. -/
theorem of_not_unordered {e y z : Word} (h : ¬Unordered e y z) :
    (floatVal y).isNan = false ∧ (floatVal z).isNan = false ∧ (floatVal e).IsTolerance := by
  simp only [Unordered, not_or, Bool.not_eq_true] at h
  obtain ⟨hy, hz, he, hmsb⟩ := h
  exact ⟨hy, hz, isTolerance_of_msb he hmsb⟩

theorem similarE_iff {e y z : Word} (h : ¬Unordered e y z) :
    similarE e y z = true ↔
      Near (floatVal e) (floatVal z) (floatVal y) ∨ Near (floatVal e) (floatVal y) (floatVal z) := by
  obtain ⟨hy, hz, he⟩ := of_not_unordered h
  rw [similarE, Bool.or_eq_true, inNeighbourhood_iff_near he hy, inNeighbourhood_iff_near he hz]

theorem essentiallyEqualE_iff {e y z : Word} (h : ¬Unordered e y z) :
    essentiallyEqualE e y z = true ↔
      Near (floatVal e) (floatVal z) (floatVal y) ∧ Near (floatVal e) (floatVal y) (floatVal z) := by
  obtain ⟨hy, hz, he⟩ := of_not_unordered h
  rw [essentiallyEqualE, Bool.and_eq_true, inNeighbourhood_iff_near he hy, inNeighbourhood_iff_near he hz]

theorem fcmpe_of_unordered {e y z : Word} (h : Unordered e y z) : fcmpe e y z = (0, 0x10#8) :=
  if_pos ((unorderedE_iff e y z).2 h)

theorem fcmpe_of_ordered {e y z : Word} (h : ¬Unordered e y z) :
    fcmpe e y z = if similarE e y z then (0, 0) else fcmp y z := if_neg (mt (unorderedE_iff e y z).1 h)

theorem feqle_of_unordered {e y z : Word} (h : Unordered e y z) : feqle e y z = 0 := by
  rw [feqle, (unorderedE_iff e y z).2 h]
  rfl

theorem feqle_of_ordered {e y z : Word} (h : ¬Unordered e y z) :
    feqle e y z = boolWord (essentiallyEqualE e y z) := by
  rw [feqle, Bool.eq_false_iff.2 (mt (unorderedE_iff e y z).1 h)]
  rfl

/-! ### The tolerance 0 -/

theorem floatVal_zero_word : floatVal 0 = .finite false 0 := by decide +kernel

/-- The two zeros are the finite data equal to a zero. -/
theorem eq_zero_datum_iff (a b : Bool) (n : Nat) :
    FloatVal.finite b n = .finite false 0 ∨ FloatVal.finite b n = .finite true 0 ↔
      signedUnits a 0 = signedUnits b n := by
  rw [signedUnits_eq_zero.2 rfl, eq_comm (a := (0 : Int)), signedUnits_eq_zero]
  cases b <;> simp

/-- With the tolerance 0 the neighbours are the equal data. -/
theorem inNeighbourhood_zero_iff (u x : FloatVal) :
    inNeighbourhood (.finite false 0) u x = true ↔ u.cmp x = some .eq := by
  cases u <;> cases x
  case finite.finite a m b n =>
    rw [FloatVal.cmp, Option.some_inj, compare_eq_iff_eq]
    obtain rfl | hm := eq_or_ne m 0
    · rw [inNeighbourhood_of_zero _ a rfl, decide_eq_true_iff, eq_zero_datum_iff a]
    · have hpos : 2 ^ binary64.scale ≠ 0 := (Nat.two_pow_pos _).ne'
      rw [inNeighbourhood_of_finite hm, decide_eq_true_iff, Nat.zero_mul, Nat.le_zero, Nat.mul_eq_zero,
        or_iff_left hpos, Int.natAbs_eq_zero, sub_eq_zero, eq_comm]
  case finite.inf a m b =>
    obtain rfl | hm := eq_or_ne m 0
    · rw [inNeighbourhood_of_zero _ a rfl]
      cases b <;> simp [FloatVal.cmp]
    · rw [inNeighbourhood_finite_inf hm]
      cases b <;> simp [FloatVal.cmp]
  case inf.finite a b n =>
    rw [inNeighbourhood_of_inf a false 0 rfl, if_pos (Nat.two_pow_pos _)]
    cases a <;> simp [FloatVal.cmp]
  case inf.inf a b =>
    rw [inNeighbourhood_of_inf a false 0 rfl, if_pos (Nat.two_pow_pos _)]
    cases a <;> cases b <;> decide
  all_goals exact iff_of_false Bool.false_ne_true (Option.some_ne_none _).symm

theorem fcomp_eq_eq_comm (y z : Word) : fcomp z y = some .eq ↔ fcomp y z = some .eq := by
  rw [fcomp_eq_eq_iff, fcomp_eq_eq_iff, eq_comm (a := (floatVal z).position), and_left_comm]

theorem similarE_zero_iff (y z : Word) : similarE 0 y z = true ↔ fcomp y z = some .eq := by
  rw [similarE, floatVal_zero_word, Bool.or_eq_true, inNeighbourhood_zero_iff, inNeighbourhood_zero_iff]
  exact (or_congr_left (fcomp_eq_eq_comm y z)).trans (or_self_iff)

theorem essentiallyEqualE_zero_iff (y z : Word) : essentiallyEqualE 0 y z = true ↔ fcomp y z = some .eq := by
  rw [essentiallyEqualE, floatVal_zero_word, Bool.and_eq_true, inNeighbourhood_zero_iff, inNeighbourhood_zero_iff]
  exact (and_congr_left' (fcomp_eq_eq_comm y z)).trans (and_self_iff)

theorem not_unordered_zero {y z : Word} (hy : (floatVal y).isNan = false) (hz : (floatVal z).isNan = false) :
    ¬Unordered 0 y z := by
  have hzero : (floatVal 0).isNan = false := by rw [floatVal_zero_word]; rfl
  rw [Unordered, hy, hz, hzero]
  decide

theorem fcmpe_zero {y z : Word} (hy : (floatVal y).isNan = false) (hz : (floatVal z).isNan = false) :
    fcmpe 0 y z = fcmp y z := by
  rw [fcmpe_of_ordered (not_unordered_zero hy hz)]
  split
  next hsimilar =>
    rw [fcmp, (similarE_zero_iff y z).1 hsimilar]
    rfl
  next => rfl

theorem feqle_zero {y z : Word} (hy : (floatVal y).isNan = false) (hz : (floatVal z).isNan = false) :
    feqle 0 y z = feql y z := by
  rw [feqle_of_ordered (not_unordered_zero hy hz), feql]
  exact congrArg boolWord (Bool.eq_iff_iff.2 ((essentiallyEqualE_zero_iff y z).trans decide_eq_true_iff.symm))

/-! ### The obligations -/

/-- Settles O46: each is a reading of `fcomp`, which is the order of the positions. -/
theorem floatComparisons : Obligations.FloatComparisons := by
  unfold Obligations.FloatComparisons
  refine ⟨regsDo_of_floatX (op := fun _ => fcmp) (fun _ _ _ _ => rfl) fun s y z => ⟨fun hnan => ?_, fun hy hz => ?_⟩,
    regsDo_of_writeX (f := fun _ => funordered) (fun _ _ _ _ => rfl) fun s y z => ⟨rfl, ?_⟩,
    regsDo_of_writeX (f := fun _ => feql) (fun _ _ _ _ => rfl) fun s y z => ⟨rfl, ?_⟩⟩
  · rw [fcmp_of_nan hnan]
    exact ⟨rfl, rfl⟩
  · rw [fcmp_of_not_nan hy hz, withEvents_zero]
    exact ⟨rfl, rfl⟩
  · rw [funordered, boolWord_decide]
    exact if_congr fcomp_eq_none_iff rfl rfl
  · rw [feql, boolWord_decide]
    exact if_congr fcomp_eq_eq_iff rfl rfl

/-- Settles O47: unordered or not, and then by the neighbourhoods. -/
theorem epsilonComparisons : Obligations.EpsilonComparisons := by
  unfold Obligations.EpsilonComparisons
  refine ⟨regsDo_of_floatX (op := fun s => fcmpe s.sr.rE) (fun _ _ _ _ => rfl) fun s y z =>
      ⟨fun hun => ?_, fun hord => ?_⟩,
    regsDo_of_writeX (f := fun s => fune s.sr.rE) (fun _ _ _ _ => rfl) fun s y z =>
      ⟨rfl, fun hun => ?_, fun hord => ?_⟩,
    regsDo_of_writeX (f := fun s => feqle s.sr.rE) (fun _ _ _ _ => rfl) fun s y z =>
      ⟨rfl, feqle_of_unordered, fun hord => ?_⟩⟩
  · rw [fcmpe_of_unordered hun]
    exact ⟨rfl, rfl⟩
  · obtain ⟨hy, hz, -⟩ := of_not_unordered hord
    rw [fcmpe_of_ordered hord, fcmp_of_not_nan hy hz, ← similarE_iff hord]
    split
    next hsimilar => exact ⟨withEvents_zero s, fun _ => rfl, fun hfar => absurd hsimilar hfar⟩
    next hfar => exact ⟨withEvents_zero s, fun hsimilar => absurd hsimilar hfar, fun _ => rfl⟩
  · exact if_pos ((unorderedE_iff _ y z).2 hun)
  · exact if_neg (mt (unorderedE_iff _ y z).1 hord)
  · rw [feqle_of_ordered hord, ← essentiallyEqualE_iff hord]
    exact ⟨fun h => if_pos h, fun h => if_neg h⟩

/-- Settles O48: with the tolerance 0 similar and essentially equal are both equal. -/
theorem zeroToleranceIsExact : Obligations.ZeroToleranceIsExact := by
  unfold Obligations.ZeroToleranceIsExact
  intro s x y z hrE hy hz
  refine ⟨?_, ?_⟩
  · show s.floatX x (fcmpe s.sr.rE (s.reg y) (s.reg z)) = s.floatX x (fcmp (s.reg y) (s.reg z))
    rw [hrE, fcmpe_zero hy hz]
  · show s.writeX x (feqle s.sr.rE (s.reg y) (s.reg z)) 0 = s.writeX x (feql (s.reg y) (s.reg z)) 0
    rw [hrE, feqle_zero hy hz]

end Sys2Proof.Machine
end

section
/-! The special register family (O49 to O51). A read is one register write (`gets_getSpecial`). A `PUT` to a register that
holds a value of its own is one new set of stored special registers (`putSpecial_stored`); rG and rL move the bounds of
the two register files, and `reg_setG` and `reg_takeFrame` say what every register reads then. -/

namespace Sys2Proof.Machine

/-! ### The special registers by their numbers (10_state.md R40) -/

theorem specialOf_isSome : ∀ {z : Byte}, z.toNat < 32 → (specialOf z).isSome = true := by decide

/-- The draws are the reads of rC, rI and rU (R46). -/
theorem drawsTaken_of_specialOf :
    ∀ {z : Byte}, ∀ r ∈ specialOf z, drawsTaken r = if z ∈ [8#8, 12#8, 17#8] then 1 else 0 := by decide

@[simp] theorem special_advance (s : State) (r : SpecialReg) : s.advance.special r = s.special r := by
  cases r <;> rfl

section Registers

variable {s : State}

/-! ### `GET` (47_system.md R476) -/

/-- `GET` with legal fields, when `$X` may be written: the value of the named register, and its draws. -/
theorem gets_getSpecial {x z : Byte} {r : SpecialReg} (hroom : s.roomFor x = true) (hr : specialOf z = some r) :
    ∃ t, s.getSpecial x 0 z = .next t ∧ WroteReg s x (s.special r) t ∧ t.sr = s.sr ∧ t.pc = s.pc + 4 ∧ KeptMem s t ∧
      KeptRest s t ∧ t.draws = s.draws + drawsTaken r := by
  have hexec : s.getSpecial x 0 z =
      .next ((s.setReg x (s.special r)).setDraws (s.draws + drawsTaken r)).advance := by
    rw [State.getSpecial, hr]
    exact guardWrite_of_room hroom _
  exact ⟨_, hexec, (wroteReg_setReg x _ s).congr rfl rfl, by simp, by simp, fun _ => by simp, by simp [KeptRest], rfl⟩

/-! ### `PUT` to a stored special register (R477, R478) -/

/-- The register put reads the value, and every other one as before. -/
theorem putSpecial_stored {r : SpecialReg} {v : Word}
    (hr : r ∈ [SpecialReg.rB, .rD, .rE, .rH, .rJ, .rM, .rR, .rBB, .rF, .rP, .rW, .rX, .rY, .rZ, .rWW, .rXX, .rYY, .rZZ,
      .rA])
    (hA : r = .rA → v.toNat < 2 ^ 18) :
    ∃ q, s.putSpecial r v = .next (s.setSr q).advance ∧
      ∀ r', (s.setSr q).special r' = if r' = r then v else s.special r' := by
  cases r with
  | rC | rN | rO | rS | rI | rT | rTT | rK | rQ | rU | rV | rG | rL => simp at hr
  | rA => exact ⟨{ s.sr with rA := v }, if_pos (hA rfl), fun r' => by cases r' <;> rfl⟩
  | rB | rD | rE | rH | rJ | rM | rR | rBB | rF | rP | rW | rX | rY | rZ | rWW | rXX | rYY | rZZ =>
    exact ⟨_, rfl, fun r' => by cases r' <;> rfl⟩

/-! ### `PUT` to rG (R479) -/

theorem G_setG (h : s.Inv) {g : Nat} (hg : g ≤ 255) : (s.setG g).G = g := by
  rw [State.G_eq, length_glob_setG h hg]
  omega

/-- Above the new bound the globals are in their places, and those that were not global before read 0. -/
theorem getD_glob_setG {g k : Nat} (hk : g ≤ k) :
    (s.setG g).glob.getD (k - g) 0 = if s.G ≤ k then s.glob.getD (k - s.G) 0 else 0 := by
  unfold State.setG
  split
  · rw [glob_setGlob]
    split
    · rw [List.getD_append_right _ _ _ _ (by simp; omega), List.length_replicate]
      congr 1
      omega
    · rw [List.getD_append _ _ _ _ (by simp; omega), List.getD_eq_getElem?_getD, List.getElem?_replicate]
      split <;> rfl
  · rw [glob_setGlob, if_pos (by omega), List.getD_eq_getElem?_getD, List.getElem?_drop, ← List.getD_eq_getElem?_getD]
    congr 1
    omega

theorem reg_setG (h : s.Inv) {g : Nat} (hg : g ≤ 255) (hL : s.L ≤ g) (k : Byte) :
    (s.setG g).reg k = if k.toNat < s.L ∨ s.G ≤ k.toNat ∧ g ≤ k.toNat then s.reg k else 0 := by
  have hLG := h.locals
  have hG := G_setG h hg
  by_cases hk : g ≤ k.toNat
  · rw [reg_of_global (by omega), hG, getD_glob_setG hk]
    by_cases hkG : s.G ≤ k.toNat
    · rw [if_pos hkG, if_pos (.inr ⟨hkG, hk⟩), reg_of_global hkG]
    · rw [if_neg hkG, if_neg (by omega)]
  · rw [reg_of_lt (by omega)]
    by_cases hkL : k.toNat < s.L
    · rw [if_pos (.inl hkL), reg_of_lt (by omega)]
      rfl
    · rw [if_neg (by omega)]
      exact List.getD_eq_default _ _ (Nat.le_of_not_lt hkL)

/-! ### `PUT` to rL (R480) -/

/-- In both cases of the rule the frame is cut at the value put. -/
theorem putRL_eq (s : State) (v : Word) : s.putRL v = .next (s.setFrame (s.frame.take v.toNat)).advance := by
  unfold State.putRL
  split
  · rfl
  · rename_i hv
    rw [List.take_of_length_le (Nat.le_of_not_lt hv)]
    rfl

theorem reg_takeFrame (n : Nat) (k : Byte) :
    (s.setFrame (s.frame.take n)).reg k = if k.toNat < min s.L n ∨ s.G ≤ k.toNat then s.reg k else 0 := by
  by_cases hG : s.G ≤ k.toNat
  · rw [if_pos (.inr hG), reg_of_global hG]
    exact reg_of_global hG
  · have hread : (s.setFrame (s.frame.take n)).reg k = (s.frame.take n).getD k.toNat 0 :=
      reg_of_lt (Nat.lt_of_not_le hG)
    rw [hread]
    by_cases hk : k.toNat < min s.L n
    · rw [if_pos (.inl hk), reg_of_lt (by omega), List.getD_eq_getElem?_getD, List.getElem?_take_of_lt (by omega),
        ← List.getD_eq_getElem?_getD]
    · rw [if_neg (by omega), List.getD_eq_default _ _ (by rw [List.length_take, ← State.L_eq]; omega)]

end Registers

/-! ### The obligations -/

/-- Settles O49: the meaning of each of the fourteen is the advance of `pc`. -/
theorem hintsOnlyAdvance : Obligations.HintsOnlyAdvance := by
  unfold Obligations.HintsOnlyAdvance
  intro s i hi
  have hexec : exec i s = .next s.advance := by fin_cases hi <;> rfl
  rw [hexec]
  exact goesTo_advance s

/-- Settles O50: the value read is that of the register that the number names. -/
theorem getReadsSpecials : Obligations.GetReadsSpecials := by
  unfold Obligations.GetReadsSpecials
  intro s x z hroom hz
  obtain ⟨r, hr⟩ := Option.isSome_iff_exists.1 (specialOf_isSome hz)
  obtain ⟨t, hexec, hreg, hsr, hpc, hmem, hrest, hdraws⟩ := gets_getSpecial hroom hr
  refine ⟨t, s.special r, hexec, hreg, hsr, hpc, hmem, hrest, ?_, fun hdraw => ?_, ?_⟩
  · rw [hdraws, drawsTaken_of_specialOf r hr]
    split <;> rfl
  · fin_cases hdraw <;> cases hr <;> rfl
  · repeat' apply And.intro
    all_goals
      rintro rfl
      cases hr
      rfl

/-- Settles O51, register by register: the stored ones, rG, the illegal values of rA and of rG, and rL. -/
theorem putWritesSpecials : Obligations.PutWritesSpecials := by
  unfold Obligations.PutWritesSpecials
  intro s x z h i v hi
  rw [exec_put_forms hi]
  refine ⟨fun r hx hr hA => ?_, fun hx h32 h255 hL => ?_, fun hx hv => ?_, fun hx hv => ?_, fun hx => ?_⟩
  · obtain ⟨q, hput, hspecial⟩ := putSpecial_stored (s := s) hr hA
    refine ⟨_, (putNumbered_of_some hx v).trans hput, ?_, fun r' hne => ?_, rfl, .of_eq rfl rfl, fun _ => rfl,
      ⟨rfl, rfl, rfl, rfl⟩, rfl⟩
    · rw [special_advance, hspecial, if_pos rfl]
    · rw [special_advance, hspecial, if_neg hne]
  · subst hx
    have hput : s.putNumbered 19 0 v = .next (s.setG v.toNat).advance :=
      (putNumbered_of_some (r := .rG) rfl v).trans (if_neg (by omega))
    exact ⟨_, hput, G_setG h h255, rfl, reg_setG h h255 hL, rfl, rfl, fun _ => rfl, ⟨rfl, rfl, rfl, rfl⟩, rfl⟩
  · exact faults_of_eq (putNumbered_illegal (.inr (.inr (.inr (.inl ⟨hx, hv⟩)))))
  · exact faults_of_eq (putNumbered_illegal (.inr (.inr (.inr (.inr ⟨hx, hv⟩)))))
  · subst hx
    have hput : s.putNumbered 20 0 v = .next (s.setFrame (s.frame.take v.toNat)).advance :=
      (putNumbered_of_some (r := .rL) rfl v).trans (putRL_eq s v)
    have hlength : (s.frame.take v.toNat).length = min s.L v.toNat := by
      rw [List.length_take, min_comm]
      rfl
    exact ⟨_, hput, hlength, rfl, reg_takeFrame (s := s) v.toNat, rfl, rfl, fun _ => rfl, ⟨rfl, rfl, rfl, rfl⟩, rfl⟩

end Sys2Proof.Machine
end

section
/-! The saved context (O53 to O55). `SAVE` is `Memory.storeOctas` of `State.context` and `UNSAVE` is `Memory.loadOctas` below
the final octa. Both go by the slots of an address, `octaSlot`: `octaIn_storeOctas` says what each slot holds after the
store, `getD_loadOctas` what a load reads of each, and `getElem?_context_local` to `getElem?_context_final` what is where in
a context. The round trip is the two rules one after the other: the address of the final octa leads back to every slot. -/

namespace Sys2Proof.Machine

/-! ### Addresses of octas (20_memory.md R86, 47_system.md R481) -/

/-- Where the octa number `i` of those that follow each other from `a` upward stands in memory. -/
def octaSlot (a : Word) (i : Nat) : Nat := effective 8 (a + BitVec.ofNat 64 (8 * i))

theorem octaSlot_eq (a : Word) (i : Nat) : octaSlot a i = (a.toNat + 8 * i) % 2 ^ 63 / 8 * 8 := by
  rw [octaSlot, effective_eq (.inr (.inr (.inr rfl))), BitVec.toNat_add, BitVec.toNat_ofNat]
  omega

theorem octaSlot_zero (a : Word) : octaSlot a 0 = effective 8 a := congrArg (effective 8) (BitVec.add_zero a)

/-- The slots of an address further up are later slots. -/
theorem octaSlot_add (a : Word) (k i : Nat) : octaSlot (a + BitVec.ofNat 64 (8 * k)) i = octaSlot a (k + i) := by
  rw [octaSlot, octaSlot, BitVec.add_assoc, ← BitVec.ofNat_add, Nat.mul_add]

theorem octaSlot_add_eight (a : Word) (i : Nat) : octaSlot (a + 8) i = octaSlot a (i + 1) :=
  (octaSlot_add a 1 i).trans (congrArg (octaSlot a) (Nat.add_comm 1 i))

/-- Two slots have no byte in common, as long as they do not wrap around the address space. -/
theorem octaSlot_disjoint (a : Word) {i j : Nat} (hij : i < j) (hj : j < 2 ^ 60) :
    octaSlot a i + 8 ≤ octaSlot a j ∨ octaSlot a j + 8 ≤ octaSlot a i := by
  rw [octaSlot_eq, octaSlot_eq]
  omega

/-- Clearing the low three bits rounds down to a multiple of 8. -/
theorem toNat_clear_low_three (a : Word) : (a &&& ~~~7#64).toNat = a.toNat / 8 * 8 := by
  have hshift : a &&& ~~~7#64 = (a >>> 3) <<< 3 := by
    apply BitVec.eq_of_getLsbD_eq
    intro i hi
    rw [getLsbD_and_not, BitVec.getLsbD_ofNat, show 7 = 2 ^ 3 - 1 from rfl, Nat.testBit_two_pow_sub_one,
      BitVec.getLsbD_shiftLeft, BitVec.getLsbD_ushiftRight]
    by_cases hlow : i < 3
    · simp [hlow, hi]
    · simp [hlow, hi, Nat.add_sub_cancel' (Nat.le_of_not_lt hlow)]
  have := a.isLt
  rw [hshift, BitVec.toNat_shiftLeft, BitVec.toNat_ushiftRight, Nat.shiftRight_eq_div_pow, Nat.shiftLeft_eq]
  omega

/-- The address of an octa of a context is a multiple of 8, so clearing its low three bits leaves it. -/
theorem clear_low_three_add (a : Word) (k : Nat) :
    ((a &&& ~~~7#64) + BitVec.ofNat 64 (8 * k)) &&& ~~~7#64 = (a &&& ~~~7#64) + BitVec.ofNat 64 (8 * k) := by
  apply BitVec.eq_of_toNat_eq
  rw [toNat_clear_low_three, BitVec.toNat_add, toNat_clear_low_three, BitVec.toNat_ofNat]
  omega

/-! ### Octas stored and loaded one after the other (R481, R482) -/

theorem octaIn_congr {m m' : Memory} {a : Nat} (h : ∀ i < 8, m'.read (a + i) = m.read (a + i)) :
    octaIn m' a = octaIn m a := by
  apply BitVec.eq_of_toNat_eq
  rw [toNat_octaIn, toNat_octaIn, Memory.readN_congr h]

theorem ofNat_load_octa (m : Memory) (a : Word) : BitVec.ofNat 64 (m.load 8 a) = octaIn m (effective 8 a) := by
  rw [Memory.load, ← toNat_octaIn, BitVec.ofNat_toNat, BitVec.setWidth_eq]

theorem octaIn_store {m : Memory} (hm : m.wf) (a v : Word) : octaIn (m.store 8 a v) (effective 8 a) = v := by
  rw [← ofNat_load_octa, Memory.load_store hm (.inr (.inr (.inr rfl)))]
  apply BitVec.eq_of_toNat_eq
  have := v.isLt
  rw [BitVec.toNat_ofNat]
  omega

/-- Every byte outside the slots reads as before. -/
theorem Memory.read_storeOctas_other {m : Memory} (hm : m.wf) {a : Word} {vs : List Word} {b : Nat}
    (h : ∀ i < vs.length, b < octaSlot a i ∨ octaSlot a i + 8 ≤ b) : (m.storeOctas a vs).read b = m.read b := by
  have octa : AccessSize 8 := .inr (.inr (.inr rfl))
  induction vs generalizing m a with
  | nil => rfl
  | cons v vs ih =>
    have hfirst := h 0 (Nat.succ_pos _)
    rw [octaSlot_zero] at hfirst
    rw [Memory.storeOctas, ih (Memory.store_wf hm octa a v), Memory.read_store hm octa, if_neg (by omega)]
    intro i hi
    rw [octaSlot_add_eight]
    exact h (i + 1) (Nat.succ_lt_succ hi)

/-- Every slot holds the octa stored in it. -/
theorem octaIn_storeOctas {m : Memory} (hm : m.wf) {a : Word} {vs : List Word} (hlen : vs.length ≤ 2 ^ 60) {i : Nat}
    {v : Word} (hv : vs[i]? = some v) : octaIn (m.storeOctas a vs) (octaSlot a i) = v := by
  induction vs generalizing m a i with
  | nil => cases hv
  | cons w vs ih =>
    rw [List.length_cons] at hlen
    have hw : (m.store 8 a w).wf := Memory.store_wf hm (.inr (.inr (.inr rfl))) a w
    rw [Memory.storeOctas]
    cases i with
    | zero =>
      obtain rfl : w = v := Option.some.inj hv
      have hkept : ∀ k < 8, ((m.store 8 a w).storeOctas (a + 8) vs).read (octaSlot a 0 + k) =
          (m.store 8 a w).read (octaSlot a 0 + k) := by
        intro k hk
        refine Memory.read_storeOctas_other hw fun j hj => ?_
        have := octaSlot_disjoint a (show 0 < j + 1 by omega) (by omega)
        rw [octaSlot_add_eight]
        omega
      rw [octaIn_congr hkept, octaSlot_zero]
      exact octaIn_store hm a w
    | succ i =>
      rw [← octaSlot_add_eight]
      exact ih hw (by omega) hv

theorem getD_loadOctas (m : Memory) {a : Word} {i k : Nat} (hi : i < k) :
    (m.loadOctas a k).getD i 0 = octaIn m (octaSlot a i) := by
  induction k generalizing a i with
  | zero => exact absurd hi (Nat.not_lt_zero i)
  | succ k ih =>
    rw [Memory.loadOctas]
    cases i with
    | zero => rw [List.getD_cons_zero, ofNat_load_octa, octaSlot_zero]
    | succ i => rw [List.getD_cons_succ, ih (Nat.lt_of_succ_lt_succ hi), octaSlot_add_eight]

/-! ### The final octa (R481) -/

/-- A final octa, by its four fields. -/
theorem toNat_finalFields (g l : Byte) (r : BitVec 18) :
    (g ++ l ++ 0#30 ++ r : Word).toNat = g.toNat * 2 ^ 56 + l.toNat * 2 ^ 48 + r.toNat := by
  rw [toNat_append_eq, toNat_append_eq, toNat_append_eq, BitVec.toNat_ofNat]
  omega

theorem finalFields_globals (g l : Byte) (r : BitVec 18) : (g ++ l ++ 0#30 ++ r : Word).extractLsb' 56 8 = g := by
  apply BitVec.eq_of_toNat_eq
  have := g.isLt
  have := l.isLt
  have := r.isLt
  rw [BitVec.extractLsb'_toNat, toNat_finalFields, Nat.shiftRight_eq_div_pow]
  omega

theorem finalFields_locals (g l : Byte) (r : BitVec 18) : (g ++ l ++ 0#30 ++ r : Word).extractLsb' 48 8 = l := by
  apply BitVec.eq_of_toNat_eq
  have := l.isLt
  have := r.isLt
  rw [BitVec.extractLsb'_toNat, toNat_finalFields, Nat.shiftRight_eq_div_pow]
  omega

theorem finalFields_rA (g l : Byte) (r : BitVec 18) : (g ++ l ++ 0#30 ++ r : Word).extractLsb' 0 18 = r := by
  apply BitVec.eq_of_toNat_eq
  have := r.isLt
  rw [BitVec.extractLsb'_toNat, toNat_finalFields, Nat.shiftRight_eq_div_pow]
  omega

/-- Fields that do not overlap are put together by addition. -/
theorem or_fields {g l r : Nat} (hl : l < 256) (hr : r < 2 ^ 48) :
    g * 2 ^ 56 ||| l * 2 ^ 48 ||| r = g * 2 ^ 56 + l * 2 ^ 48 + r := by
  have hlow : l * 2 ^ 48 ||| r = l * 2 ^ 48 + r := by
    rw [← Nat.shiftLeft_eq, Nat.shiftLeft_add_eq_or_of_lt hr]
  have hhigh : g * 2 ^ 56 ||| (l * 2 ^ 48 + r) = g * 2 ^ 56 + (l * 2 ^ 48 + r) := by
    rw [← Nat.shiftLeft_eq g, Nat.shiftLeft_add_eq_or_of_lt (by omega)]
  calc g * 2 ^ 56 ||| l * 2 ^ 48 ||| r = g * 2 ^ 56 ||| (l * 2 ^ 48 ||| r) := Nat.or_assoc _ _ _
    _ = g * 2 ^ 56 + (l * 2 ^ 48 + r) := by rw [hlow, hhigh]
    _ = g * 2 ^ 56 + l * 2 ^ 48 + r := (Nat.add_assoc _ _ _).symm

/-- A number of a byte keeps its bits when it is shifted within the word. -/
theorem toNat_ofNat_shiftLeft {n k : Nat} (hn : n < 256) (hk : k ≤ 56) :
    (BitVec.ofNat 64 n <<< k).toNat = n * 2 ^ k := by
  have hlt : n * 2 ^ k < 2 ^ 64 :=
    calc n * 2 ^ k < 256 * 2 ^ k := Nat.mul_lt_mul_of_pos_right hn (Nat.two_pow_pos k)
      _ ≤ 256 * 2 ^ 56 := Nat.mul_le_mul_left _ (Nat.pow_le_pow_right (by decide) hk)
      _ = 2 ^ 64 := by decide
  rw [BitVec.toNat_shiftLeft, BitVec.toNat_ofNat, Nat.shiftLeft_eq, Nat.mod_eq_of_lt (show n < 2 ^ 64 by omega),
    Nat.mod_eq_of_lt hlt]

section Context

variable {s : State}

theorem finalOcta_eq (h : s.Inv) :
    s.finalOcta = BitVec.ofNat 8 s.G ++ BitVec.ofNat 8 s.L ++ 0#30 ++ s.sr.rA.setWidth 18 := by
  obtain ⟨-, hG⟩ := h.globals
  have hL := h.locals
  have hA := h.status
  apply BitVec.eq_of_toNat_eq
  rw [toNat_finalFields, State.finalOcta, BitVec.toNat_or, BitVec.toNat_or, toNat_ofNat_shiftLeft (by omega) (by decide),
    toNat_ofNat_shiftLeft (by omega) (by decide), or_fields (by omega) (by omega), BitVec.toNat_ofNat,
    BitVec.toNat_ofNat, BitVec.toNat_setWidth]
  omega

/-! ### What is where in a context (R481) -/

/-- The number of general registers of a context. -/
def State.savedRegs (s : State) : Nat := s.L + (256 - s.G)

theorem length_glob (h : s.Inv) : s.glob.length = 256 - s.G := by
  have := h.globals
  have := State.G_eq s
  omega

theorem length_savedRegs (h : s.Inv) : (s.frame ++ s.glob).length = s.savedRegs := by
  rw [List.length_append, length_glob h]
  rfl

theorem length_context (h : s.Inv) : s.context.length = s.savedRegs + 13 := by
  rw [State.context, List.length_append, List.length_append, length_savedRegs h]
  rfl

theorem savedRegs_le (h : s.Inv) : s.savedRegs ≤ 256 := by
  have := h.locals
  have := h.globals
  unfold State.savedRegs
  omega

theorem getElem?_context_local (h : s.Inv) {i : Nat} (hi : i < s.L) :
    s.context[i]? = some (s.reg (BitVec.ofNat 8 i)) := by
  have := h.locals
  have hlt : i < s.frame.length := hi
  rw [State.context, List.append_assoc, List.append_assoc, List.getElem?_append_left hlt, reg_ofNat (by omega),
    List.getD_eq_getElem _ _ hlt, List.getElem?_eq_getElem hlt]

theorem getElem?_context_global (h : s.Inv) {k : Byte} (hk : s.G ≤ k.toNat) :
    s.context[s.L + (k.toNat - s.G)]? = some (s.reg k) := by
  have := k.isLt
  have hlt : k.toNat - s.G < s.glob.length := by
    rw [length_glob h]
    omega
  rw [State.context, List.append_assoc, List.append_assoc, State.L_eq, List.getElem?_append_right (Nat.le_add_right _ _),
    Nat.add_sub_cancel_left, List.getElem?_append_left hlt, reg_of_global hk, List.getD_eq_getElem _ _ hlt,
    List.getElem?_eq_getElem hlt]

theorem getElem?_context_special (h : s.Inv) {j : Nat} (hj : j < s.sr.saved.length) :
    s.context[s.savedRegs + j]? = some s.sr.saved[j] := by
  rw [State.context, List.append_assoc, ← length_savedRegs h, List.getElem?_append_right (Nat.le_add_right _ _),
    Nat.add_sub_cancel_left, List.getElem?_append_left hj, List.getElem?_eq_getElem hj]

theorem getElem?_context_final (h : s.Inv) : s.context[s.savedRegs + 12]? = some s.finalOcta := by
  rw [State.context, List.append_assoc, ← length_savedRegs h, List.getElem?_append_right (Nat.le_add_right _ _),
    Nat.add_sub_cancel_left]
  rfl

/-! ### `SAVE` (R481) -/

/-- `SAVE`, when `$X` may be written: memory is that of the context stored from the base, and the rest of the state. -/
theorem saves_saveContext (h : s.Inv) {x : Byte} (hroom : s.roomFor x = true) :
    ∃ t, s.saveContext x = .next t ∧ t.mem = s.mem.storeOctas (s.saveBase x) s.context ∧
      WroteReg s x (s.saveBase x + BitVec.ofNat 64 (8 * (s.savedRegs + 12))) t ∧ t.sr = s.sr ∧ t.pc = s.pc + 4 ∧
      KeptRest s t ∧ t.draws = s.draws := by
  refine ⟨_, guardWrite_of_room hroom _, by simp, ?_, by simp, by simp, by simp [KeptRest], by simp⟩
  rw [length_context h]
  exact wroteReg_setMem_setReg s _ x _

/-- What `SAVE` leaves in a slot of the context. -/
theorem octaIn_context (h : s.Inv) {t : State} {a : Word} (ht : t.mem = s.mem.storeOctas a s.context) {i : Nat}
    {v : Word} (hv : s.context[i]? = some v) : octaIn t.mem (octaSlot a i) = v := by
  have := savedRegs_le h
  have hlen : s.context.length ≤ 2 ^ 60 := by
    rw [length_context h]
    omega
  rw [ht]
  exact octaIn_storeOctas h.memory hlen hv

/-! ### `UNSAVE` (R482) -/

/-- The stored special registers read back from the twelve octas at `b` and the final octa `o`. -/
def State.restoredSpecials (b o : Word) (s : State) : Specials :=
  let oct (j : Nat) : Word := octaIn s.mem (octaSlot b j)
  { s.sr with
    rB := oct 0, rD := oct 1, rE := oct 2, rH := oct 3, rJ := oct 4, rM := oct 5
    rR := oct 6, rP := oct 7, rW := oct 8, rX := oct 9, rY := oct 10, rZ := oct 11
    rA := (o.extractLsb' 0 18).setWidth 64 }

/-- The state after `UNSAVE` of a context of `l` locals at `a`, of the globals from `$g` at `g0` and of the twelve special
registers at `b`, with the final octa `o`. -/
def State.restored (a g0 b o : Word) (g l : Nat) (s : State) : State :=
  (((s.setSr (s.restoredSpecials b o)).setGlob (s.mem.loadOctas g0 (256 - g))).setFrame (s.mem.loadOctas a l)).advance

/-- `UNSAVE` completes when its final octa is in order and `RING_LIMIT` allows its locals. -/
theorem unsaveContext_restores {f o : Word} {g l : Nat} (ho : octaIn s.mem (effective 8 f) = o)
    (hg : (o.extractLsb' 56 8).toNat = g) (hl : (o.extractLsb' 48 8).toNat = l) (h32 : 32 ≤ g) (hle : l ≤ g)
    (hring : s.ringAllows s.stack.length l = true) :
    s.unsaveContext f = .next (s.restored (f - 96 - BitVec.ofNat 64 (8 * (256 - g)) - BitVec.ofNat 64 (8 * l))
      (f - 96 - BitVec.ofNat 64 (8 * (256 - g))) (f - 96) o g l) := by
  subst hg hl ho
  simp only [State.unsaveContext, ofNat_load_octa]
  rw [if_neg (by omega), if_neg (by rw [hring]; decide)]
  rfl

theorem unsaveContext_badFinal {f o : Word} (ho : octaIn s.mem (effective 8 f) = o)
    (h : (o.extractLsb' 56 8).toNat < 32 ∨ (o.extractLsb' 56 8).toNat < (o.extractLsb' 48 8).toNat) :
    s.unsaveContext f = s.fails .illegalInstruction := by
  subst ho
  simp only [State.unsaveContext, ofNat_load_octa]
  exact if_pos h

theorem unsaveContext_overflow {f o : Word} (ho : octaIn s.mem (effective 8 f) = o)
    (h32 : 32 ≤ (o.extractLsb' 56 8).toNat) (hle : (o.extractLsb' 48 8).toNat ≤ (o.extractLsb' 56 8).toNat)
    (hring : s.ringAllows s.stack.length (o.extractLsb' 48 8).toNat = false) :
    s.unsaveContext f = s.fails .registerStackOverflow := by
  subst ho
  simp only [State.unsaveContext, ofNat_load_octa]
  rw [if_neg (by omega), if_pos (by rw [hring]; decide)]

section Restored

variable {a g0 b o : Word} {g l : Nat} {k : Byte}

theorem L_restored : (s.restored a g0 b o g l).L = l := Memory.length_loadOctas s.mem a l

theorem G_restored (hg : g ≤ 256) : (s.restored a g0 b o g l).G = g := by
  have hG : (s.restored a g0 b o g l).G = 256 - (s.mem.loadOctas g0 (256 - g)).length := rfl
  rw [hG, Memory.length_loadOctas]
  omega

theorem reg_restored_local (hg : g ≤ 256) (hle : l ≤ g) (hk : k.toNat < l) :
    (s.restored a g0 b o g l).reg k = octaIn s.mem (octaSlot a k.toNat) := by
  rw [reg_of_lt (by rw [G_restored hg]; omega)]
  exact getD_loadOctas s.mem hk

theorem reg_restored_marginal (hg : g ≤ 256) (hl : l ≤ k.toNat) (hk : k.toNat < g) :
    (s.restored a g0 b o g l).reg k = 0 := by
  apply reg_of_marginal
  rw [State.marginal, L_restored, G_restored hg]
  exact decide_eq_true ⟨hl, hk⟩

theorem reg_restored_global (hg : g ≤ 256) (hk : g ≤ k.toNat) :
    (s.restored a g0 b o g l).reg k = octaIn s.mem (octaSlot g0 (k.toNat - g)) := by
  have := k.isLt
  rw [reg_of_global (by rw [G_restored hg]; exact hk), G_restored hg]
  exact getD_loadOctas s.mem (by omega)

end Restored

/-! ### A context that is still in memory (R483) -/

/-- The slots from `a` upward hold the context of `s` in the memory of `u`. -/
def HoldsContext (s u : State) (a : Word) : Prop :=
  ∀ {i : Nat} {v : Word}, s.context[i]? = some v → octaIn u.mem (octaSlot a i) = v

/-- `SAVE` leaves the context in memory, where it stays as long as memory does. -/
theorem holdsContext_of_saved (h : s.Inv) {t u : State} {a : Word} (ht : t.mem = s.mem.storeOctas a s.context)
    (hkept : KeptMem t u) : HoldsContext s u a := by
  intro i v hv
  rw [octaIn_congr fun _ _ => hkept _]
  exact octaIn_context h ht hv

/-- Octas back from an address above `a`. -/
theorem add_octas_sub (a : Word) (i k : Nat) :
    a + BitVec.ofNat 64 (8 * (i + k)) - BitVec.ofNat 64 (8 * k) = a + BitVec.ofNat 64 (8 * i) := by
  rw [Nat.mul_add, BitVec.ofNat_add, ← BitVec.add_assoc, BitVec.add_sub_cancel]

section Held

variable {u : State} {a : Word} (h : s.Inv) (hheld : HoldsContext s u a)

include h hheld

/-- The final octa leads to the first octa of each part of the context. -/
theorem unsaveContext_of_held (hring : u.ringAllows u.stack.length s.L = true) :
    u.unsaveContext (a + BitVec.ofNat 64 (8 * (s.savedRegs + 12))) =
      .next (u.restored a (a + BitVec.ofNat 64 (8 * s.L)) (a + BitVec.ofNat 64 (8 * s.savedRegs)) s.finalOcta s.G s.L) := by
  have hLG := h.locals
  obtain ⟨h32, h255⟩ := h.globals
  have hspecials : a + BitVec.ofNat 64 (8 * (s.savedRegs + 12)) - 96 = a + BitVec.ofNat 64 (8 * s.savedRegs) :=
    add_octas_sub a s.savedRegs 12
  have hglobals : a + BitVec.ofNat 64 (8 * s.savedRegs) - BitVec.ofNat 64 (8 * (256 - s.G)) =
      a + BitVec.ofNat 64 (8 * s.L) := add_octas_sub a s.L (256 - s.G)
  have hg : (s.finalOcta.extractLsb' 56 8).toNat = s.G := by
    rw [finalOcta_eq h, finalFields_globals, BitVec.toNat_ofNat]
    omega
  have hl : (s.finalOcta.extractLsb' 48 8).toNat = s.L := by
    rw [finalOcta_eq h, finalFields_locals, BitVec.toNat_ofNat]
    omega
  rw [unsaveContext_restores (hheld (getElem?_context_final h)) hg hl h32 hLG hring, hspecials, hglobals,
    BitVec.add_sub_cancel]

theorem reg_restored_of_held {b o : Word} (k : Byte) :
    (u.restored a (a + BitVec.ofNat 64 (8 * s.L)) b o s.G s.L).reg k = s.reg k := by
  have hLG := h.locals
  have hG : s.G ≤ 256 := Nat.sub_le _ _
  by_cases hk : k.toNat < s.L
  · rw [reg_restored_local hG hLG hk, hheld (getElem?_context_local h hk), BitVec.ofNat_toNat, BitVec.setWidth_eq]
  · by_cases hkG : k.toNat < s.G
    · rw [reg_restored_marginal hG (by omega) hkG, reg_of_marginal (decide_eq_true (by omega))]
    · have hle := Nat.le_of_not_lt hkG
      rw [reg_restored_global hG hle, octaSlot_add, hheld (getElem?_context_global h hle)]

theorem restoredSpecials_of_held :
    u.restoredSpecials (a + BitVec.ofNat 64 (8 * s.savedRegs)) s.finalOcta =
      { u.sr with
        rA := s.sr.rA, rB := s.sr.rB, rD := s.sr.rD, rE := s.sr.rE, rH := s.sr.rH, rJ := s.sr.rJ, rM := s.sr.rM
        rR := s.sr.rR, rP := s.sr.rP, rW := s.sr.rW, rX := s.sr.rX, rY := s.sr.rY, rZ := s.sr.rZ } := by
  have hA : (s.finalOcta.extractLsb' 0 18).setWidth 64 = s.sr.rA := by
    apply BitVec.eq_of_toNat_eq
    have := h.status
    rw [finalOcta_eq h, finalFields_rA, BitVec.toNat_setWidth, BitVec.toNat_setWidth]
    omega
  have hspecial (j : Nat) (hj : j < 12) :
      octaIn u.mem (octaSlot (a + BitVec.ofNat 64 (8 * s.savedRegs)) j) = s.sr.saved[j]'hj := by
    rw [octaSlot_add]
    exact hheld (getElem?_context_special h hj)
  simp only [State.restoredSpecials, hA, Specials.mk.injEq, true_and, and_true]
  exact ⟨hspecial 0 (by decide), hspecial 1 (by decide), hspecial 2 (by decide), hspecial 3 (by decide),
    hspecial 4 (by decide), hspecial 5 (by decide), hspecial 6 (by decide), hspecial 7 (by decide),
    hspecial 8 (by decide), hspecial 9 (by decide), hspecial 10 (by decide), hspecial 11 (by decide)⟩

end Held

end Context

/-! ### The obligations -/

/-- Settles O53: the context is stored octa by octa, and each of its octas is known by its place. -/
theorem saveLaysOutContext : Obligations.SaveLaysOutContext := by
  unfold Obligations.SaveLaysOutContext
  intro s x y z h hroom a n slot
  obtain ⟨t, hexec, hmem, hreg, hsr, hpc, hrest, hdraws⟩ := saves_saveContext h hroom
  refine ⟨t, hexec, hreg, hsr, hpc, hrest, hdraws, fun i hi => octaIn_context h hmem (getElem?_context_local h hi),
    fun k hk => octaIn_context h hmem (getElem?_context_global h hk),
    fun j hj => octaIn_context h hmem (getElem?_context_special h hj), ?_, fun b hb => ?_⟩
  · rw [← finalOcta_eq h]
    exact octaIn_context h hmem (getElem?_context_final h)
  · rw [hmem]
    exact Memory.read_storeOctas_other h.memory (by rwa [length_context h])

/-- Settles O54, in the cases of the final octa and of `RING_LIMIT`. -/
theorem unsaveRestoresContext : Obligations.UnsaveRestoresContext := by
  unfold Obligations.UnsaveRestoresContext
  intro s x y z f oct g l b g0 a
  have hg : g ≤ 256 := Nat.le_of_lt (BitVec.isLt _)
  refine ⟨fun h => faults_of_eq (unsaveContext_badFinal rfl h),
    fun h32 hle hring => faults_of_eq (unsaveContext_overflow rfl h32 hle hring), fun h32 hle hring => ?_⟩
  refine ⟨_, unsaveContext_restores rfl rfl rfl h32 hle hring, G_restored hg, L_restored,
    fun k hk => reg_restored_local hg hle hk, fun k hl hk => reg_restored_marginal hg hl hk,
    fun k hk => reg_restored_global hg hk, ?_, rfl, fun _ => rfl, ⟨rfl, rfl, rfl, rfl⟩, rfl⟩
  have hb : octaIn s.mem (octaSlot b 0) = oct b := by rw [octaSlot_zero]
  rw [← hb]
  rfl

/-- Settles O55: the final octa that `SAVE` left leads `UNSAVE` back to the slots of the context (O53), which hold what
they held. -/
theorem saveUnsaveRoundTrip : Obligations.SaveUnsaveRoundTrip := by
  unfold Obligations.SaveUnsaveRoundTrip
  intro s t u x z h hroom hsave hkept hstack hparams hz
  obtain ⟨t', hexec, hmem, hreg, -⟩ := saves_saveContext h hroom
  obtain rfl : t' = t := Host.Outcome.next.inj (hexec.symm.trans hsave)
  have hheld : HoldsContext s u (s.saveBase x) := holdsContext_of_saved h hmem hkept
  have hring : u.ringAllows u.stack.length s.L = true := by
    rw [ringAllows_congr hparams, hstack]
    exact h.ring
  have haddr : u.reg z &&& ~~~7#64 = s.saveBase x + BitVec.ofNat 64 (8 * (s.savedRegs + 12)) := by
    obtain ⟨hx, -⟩ := hreg
    rw [hz, hx]
    exact clear_low_three_add _ _
  have hunsave := unsaveContext_of_held h hheld hring
  rw [← haddr] at hunsave
  exact ⟨_, hunsave, G_restored (Nat.sub_le _ _), L_restored, reg_restored_of_held h hheld,
    restoredSpecials_of_held h hheld, hstack⟩

end Sys2Proof.Machine
end

section
/-! System calls and trips (O56, O57). `StringAt` says that a string of bytes other than 0 and its end stand in memory;
its bytes have addresses of their own, so memory lists as many (`StringAt.length_le`) and the bounded loop of `Fputs`
reaches the end (`StringAt.readString_eq`). A trip and its return are one state each. -/

namespace Sys2Proof.Machine

/-! ### Strings in memory (47_system.md R492) -/

/-- A byte that does not read 0 is listed. -/
theorem Memory.mem_of_read_ne_zero {m : Memory} {c : Nat} (h : m.read c ≠ 0) : c ∈ m.map Prod.fst := by
  induction m with
  | nil => exact absurd rfl h
  | cons d m ih =>
    obtain ⟨d, b⟩ := d
    rw [Memory.read] at h
    rw [List.map_cons, List.mem_cons]
    split at h
    · exact .inl ‹_›
    · exact .inr (ih h)

/-- The bytes `bs`, none of them 0, stand from the virtual address `a` upward, and a 0 after them. -/
structure StringAt (m : Memory) (a : Word) (bs : List Byte) : Prop where
  bytes : ∀ i, (h : i < bs.length) → m.read (byteAddress (a, bs) i) = bs[i] ∧ bs[i] ≠ 0
  ended : m.read (byteAddress (a, bs) bs.length) = 0

theorem byteAddress_eq (g : Word × List Byte) (i : Nat) : byteAddress g i = (g.1.toNat + i) % 2 ^ 63 := by
  rw [byteAddress, effective_eq (.inl rfl), BitVec.toNat_add, BitVec.toNat_ofNat]
  omega

section Strings

variable {m : Memory} {a : Word} {bs : List Byte}

theorem StringAt.tail {b : Byte} (h : StringAt m a (b :: bs)) : StringAt m (a + 1) bs where
  bytes i hi := by
    rw [← byteAddress_succ a b bs]
    exact h.bytes (i + 1) (Nat.succ_lt_succ hi)
  ended := by
    rw [← byteAddress_succ a b bs]
    exact h.ended

theorem StringAt.read_ne_zero (h : StringAt m a bs) {i : Nat} (hi : i < bs.length) :
    m.read (byteAddress (a, bs) i) ≠ 0 := by
  obtain ⟨hread, hne⟩ := h.bytes i hi
  rwa [hread]

/-- A string that wrapped around the address space would meet its own end. -/
theorem StringAt.length_lt (h : StringAt m a bs) : bs.length < 2 ^ 63 := by
  by_contra hlen
  have hsame : byteAddress (a, bs) (bs.length - 2 ^ 63) = byteAddress (a, bs) bs.length := by
    rw [byteAddress_eq, byteAddress_eq]
    omega
  have hread := h.read_ne_zero (show bs.length - 2 ^ 63 < bs.length by omega)
  rw [hsame] at hread
  exact hread h.ended

/-- Memory lists every byte of the string (assumption 8). -/
theorem StringAt.length_le (h : StringAt m a bs) : bs.length ≤ m.length := by
  have hlen := h.length_lt
  have hmaps : Set.MapsTo (byteAddress (a, bs)) (Finset.range bs.length) (m.map Prod.fst).toFinset := fun i hi =>
    List.mem_toFinset.2 (Memory.mem_of_read_ne_zero (h.read_ne_zero (Finset.mem_range.1 hi)))
  have hinj : Set.InjOn (byteAddress (a, bs)) (Finset.range bs.length) := by
    intro i hi j hj hij
    have hi := Finset.mem_range.1 hi
    have hj := Finset.mem_range.1 hj
    rw [byteAddress_eq, byteAddress_eq] at hij
    omega
  calc bs.length = (Finset.range bs.length).card := (Finset.card_range _).symm
    _ ≤ (m.map Prod.fst).toFinset.card := Finset.card_le_card_of_injOn _ hmaps hinj
    _ ≤ (m.map Prod.fst).length := List.toFinset_card_le _
    _ = m.length := List.length_map _

theorem StringAt.readString_eq (h : StringAt m a bs) {fuel : Nat} (hfuel : bs.length < fuel) :
    m.readString a fuel = bs := by
  induction bs generalizing a fuel with
  | nil =>
    obtain ⟨fuel, rfl⟩ := Nat.exists_eq_succ_of_ne_zero (Nat.ne_of_gt hfuel)
    have hend := h.ended
    rw [List.length_nil, byteAddress_zero] at hend
    exact if_pos hend
  | cons b bs ih =>
    obtain ⟨fuel, rfl⟩ := Nat.exists_eq_succ_of_ne_zero (Nat.ne_of_gt (Nat.zero_lt_of_lt hfuel))
    obtain ⟨hread, hne⟩ := h.bytes 0 (Nat.succ_pos _)
    rw [byteAddress_zero, List.getElem_cons_zero] at hread
    rw [List.getElem_cons_zero] at hne
    simp only [Memory.readString, hread, if_neg hne, ih h.tail (Nat.lt_of_succ_lt_succ hfuel)]

end Strings

section Calls

variable {s : State}

theorem fputsBytes_of_stringAt {bs : List Byte} (h : StringAt s.mem (s.reg 255) bs) : s.fputsBytes = bs :=
  h.readString_eq (Nat.lt_succ_of_le h.length_le)

/-! ### `Fputs` (R491, R492) -/

theorem stdOut_append (o : Outputs) {z : Byte} (hz : z = 1#8 ∨ z = 2#8) (bs : List Byte) :
    (o.append z bs).stdOut = if z = 1#8 then o.stdOut ++ bs else o.stdOut := by
  obtain rfl | rfl := hz <;> rfl

theorem stdErr_append (o : Outputs) {z : Byte} (hz : z = 1#8 ∨ z = 2#8) (bs : List Byte) :
    (o.append z bs).stdErr = if z = 2#8 then o.stdErr ++ bs else o.stdErr := by
  obtain rfl | rfl := hz <;> rfl

/-- `Fputs` to a stream, when `$255` may be written. -/
theorem trapFputs_of_stream {z : Byte} (hz : z = 1#8 ∨ z = 2#8) (hroom : s.roomFor 255 = true) :
    s.trapFputs z = .next ((((s.setReg 255 (Config.fputsResult s.draws)).setOut
      (s.out.append z s.fputsBytes)).setDraws (s.draws + 1)).advance) :=
  (if_pos (hz.imp (congrArg BitVec.toNat) (congrArg BitVec.toNat))).trans (guardWrite_of_room hroom _)

theorem trapFputs_badHandle {z : Byte} (h1 : z ≠ 1#8) (h2 : z ≠ 2#8) : s.trapFputs z = s.fails .badHandle :=
  if_neg fun h => h.elim (fun e => h1 (BitVec.eq_of_toNat_eq e)) fun e => h2 (BitVec.eq_of_toNat_eq e)

end Calls

/-! ### Trips (R494) -/

/-- The value of rX after a trip: the word of `TRIP`, and bit 63. -/
theorem tripWord_eq (x y z : Byte) :
    0x8000000000000000#64 ||| (encode (.trip x y z)).setWidth 64 = 0x80000000#32 ++ (0xFF#8 ++ x ++ y ++ z) := by
  have hword : encode (.trip x y z) = 0xFF#8 ++ x ++ y ++ z := by
    apply BitVec.eq_of_toNat_eq
    have hbytes : (encode (.trip x y z)).toNat = _ := word_toNat 0xFF#8 x y z
    rw [hbytes, toNat_append_eq, toNat_append_eq, toNat_append_eq]
    omega
  rw [hword]
  generalize (0xFF#8 ++ x ++ y ++ z : Tetra) = w
  apply BitVec.eq_of_toNat_eq
  have := w.isLt
  rw [BitVec.toNat_or, BitVec.toNat_append, BitVec.toNat_setWidth, Nat.mod_eq_of_lt (by omega)]
  rfl

/-! ### The obligations -/

/-- Settles O56: `Halt`, `Fputs` of a string in memory, and a handle that is no stream. -/
theorem trapHaltAndFputs : Obligations.TrapHaltAndFputs := by
  unfold Obligations.TrapHaltAndFputs
  refine ⟨fun s x z => ?_, fun s x z bs hroom hz hbytes hend => ?_, fun s x z h1 h2 =>
    faults_of_eq (trapFputs_badHandle h1 h2)⟩
  · exact ⟨(s.setStatus (.halted z)).advance, rfl, rfl, rfl, rfl, .of_eq rfl rfl, fun _ => rfl, rfl, rfl, rfl, rfl⟩
  · have hbs : s.fputsBytes = bs := fputsBytes_of_stringAt ⟨hbytes, hend⟩
    have hexec := trapFputs_of_stream hz hroom
    rw [hbs] at hexec
    exact ⟨_, hexec, (wroteReg_setReg 255 _ s).congr rfl rfl, stdOut_append s.out hz bs, stdErr_append s.out hz bs,
      by simp, by simp, fun _ => by simp, by simp, by simp, by simp, rfl⟩

/-- Settles O57: the state of the trip, and the jump of its return. -/
theorem tripAndResume : Obligations.TripAndResume := by
  unfold Obligations.TripAndResume
  refine ⟨fun s x y z hroom => ?_, fun s x y hX => ?_⟩
  · rw [← tripWord_eq]
    exact ⟨_, guardWrite_of_room hroom _, (wroteReg_setReg 255 s.sr.rJ s).congr rfl rfl, rfl, rfl,
      fun _ => by simp [State.trip], by simp [KeptRest, State.trip], by simp [State.trip]⟩
  · have hexec : exec (.resume x y 0) s = .next (s.setPc (alignTarget s.sr.rW)) := if_pos hX
    rw [hexec]
    exact goesTo_setPc s _

end Sys2Proof.Machine
end

section
/-! The family of loading and of precise faults (O7, O8, O58). `loaded` is the one state that `load` can answer
(`load_eq_ok_iff`), and State.reset is its case of the empty image; memory goes segment by segment, by the laws of one
segment. A fault is the third shape of `exec_next_cases`: no completed state has the status Faulted. -/

namespace Sys2Proof.Machine

/-! ### Precise faults (60_exceptions.md R506, R507) -/

/-- From Running an instruction reaches the status Faulted by raising the fault in the state before it, and in no other
way. -/
theorem eq_raise_of_faulted {i : Instr} {s t : State} {r : FaultReason} (hs : s.status = .running)
    (hexec : exec i s = .next t) (ht : t.status = .faulted r) : t = s.raise r := by
  obtain ⟨x, -, -, hu⟩ | ⟨-, hu⟩ | ⟨f, rfl⟩ := exec_next_cases hexec
  · cases hs.symm.trans (hu.status.symm.trans ht)
  · obtain hst | ⟨x, z, -, hst⟩ := hu.status
    · cases hs.symm.trans (hst.symm.trans ht)
    · cases hst.symm.trans ht
  · cases (status_raise s f).symm.trans ht
    rfl

/-! ### The initial globals (70_reset_and_hazards.md R544) -/

theorem length_initialGlobals (gregs : List Word) : (initialGlobals gregs).length = max 1 gregs.length := by
  cases gregs with
  | nil => rfl
  | cons v vs =>
    rw [initialGlobals, if_neg (by simp), List.length_reverse, List.length_cons]
    omega

/-- The GREG values are allocated from the last global downward. -/
theorem getD_initialGlobals {gregs : List Word} {i : Nat} (h : i < gregs.length) :
    (initialGlobals gregs).getD (gregs.length - 1 - i) 0 = gregs[i] := by
  have hne : ¬gregs.isEmpty := by
    intro he
    simp [List.isEmpty_iff.1 he] at h
  rw [initialGlobals, if_neg hne, List.getD_eq_getElem _ _ (by rw [List.length_reverse]; omega), List.getElem_reverse]
  congr 1
  omega

/-! ### The state that `load` answers (R541 to R547) -/

/-- The reset state with what an image and the parameters decide. -/
def loaded (p : Params) (img : Image) : State :=
  { State.reset with
    params := p
    pc := img.entry
    glob := initialGlobals img.gregs
    mem := Memory.loadSegments [] img.segments }

theorem load_eq_ok_iff {p : Params} {img : Image} {s : State} :
    load p img = .ok s ↔ (img.entry.toNat % 4 = 0 ∧ img.gregs.length ≤ 224) ∧ s = loaded p img := by
  unfold load
  split
  · rename_i hentry
    exact iff_of_false (fun h => nomatch h) fun h => hentry h.1.1
  · rename_i hentry
    split
    · rename_i hgregs
      exact iff_of_false (fun h => nomatch h) fun h => Nat.not_le.2 hgregs h.1.2
    · rename_i hgregs
      have hok : img.entry.toNat % 4 = 0 ∧ img.gregs.length ≤ 224 := ⟨by omega, by omega⟩
      constructor
      · rintro ⟨⟩
        exact ⟨hok, rfl⟩
      · rintro ⟨-, rfl⟩
        rfl

theorem reset_eq_loaded : State.reset = loaded {} {} := rfl

section Loaded

variable (p : Params) (img : Image)

theorem L_loaded : (loaded p img).L = 0 := rfl

theorem G_loaded : (loaded p img).G = min 255 (256 - img.gregs.length) := by
  show 256 - (initialGlobals img.gregs).length = _
  rw [length_initialGlobals]
  omega

variable {img}

theorem reg_loaded_greg {i : Nat} (h : i < img.gregs.length) (hk : img.gregs.length ≤ 224) :
    (loaded p img).reg (BitVec.ofNat 8 (255 - i)) = img.gregs[i] := by
  have hG := G_loaded p img
  have hreg : (BitVec.ofNat 8 (255 - i)).toNat = 255 - i := by
    rw [BitVec.toNat_ofNat]
    omega
  rw [reg_of_global (by omega), hreg, hG,
    show 255 - i - min 255 (256 - img.gregs.length) = img.gregs.length - 1 - i by omega]
  exact getD_initialGlobals h

/-- Below the GREG registers no register holds a value: a marginal one reads 0, and `$255` is 0 when there is none. -/
theorem reg_loaded_other {k : Byte} (h : k.toNat + img.gregs.length < 256) : (loaded p img).reg k = 0 := by
  have hG := G_loaded p img
  by_cases hk : k.toNat < (loaded p img).G
  · exact reg_of_marginal (decide_eq_true ⟨Nat.zero_le _, hk⟩)
  · have hnone : img.gregs = [] := List.eq_nil_of_length_eq_zero (by omega)
    rw [reg_of_global (by omega), show k.toNat - (loaded p img).G = 0 by omega]
    show (initialGlobals img.gregs).getD 0 0 = 0
    rw [hnone]
    rfl

theorem loaded_inv (hentry : img.entry.toNat % 4 = 0) (hk : img.gregs.length ≤ 224) : (loaded p img).Inv where
  memory := Memory.loadSegments_wf reset_memory_wf _
  aligned := hentry
  locals := Nat.zero_le _
  globals := by
    rw [G_loaded]
    omega
  status := reset_inv.status
  calls := .empty
  ring := by
    unfold State.ringAllows
    split
    · rfl
    · exact decide_eq_true (Nat.zero_le _)

end Loaded

/-! ### What the segments of an image leave in memory (R543, R551) -/

/-- Loading leaves the addresses alone that no segment covers. -/
theorem Memory.read_loadSegments_other {m : Memory} (h : m.wf) {segs : List (Word × List Byte)} {a : Nat}
    (hc : ∀ g ∈ segs, ¬Covers g a) : (m.loadSegments segs).read a = m.read a := by
  induction segs generalizing m with
  | nil => rfl
  | cons g segs ih =>
    rw [Memory.loadSegments, ih (Memory.loadBytes_wf h _ _) fun g' hg' => hc g' (List.mem_cons_of_mem _ hg')]
    exact Memory.read_loadBytes_other h (hc g List.mem_cons_self)

/-- Of a segment's bytes loading leaves each that no later one of its own and no later segment replaces. -/
theorem Memory.read_loadSegments_segment {m : Memory} (h : m.wf) {front later : List (Word × List Byte)}
    {g : Word × List Byte} {i : Nat} (hi : i < g.2.length)
    (hown : ∀ j, i < j → j < g.2.length → byteAddress g j ≠ byteAddress g i)
    (hlater : ∀ g' ∈ later, ¬Covers g' (byteAddress g i)) :
    (m.loadSegments (front ++ g :: later)).read (byteAddress g i) = g.2[i] := by
  have hfront := Memory.loadSegments_wf h front
  rw [Memory.loadSegments_append, Memory.loadSegments,
    Memory.read_loadSegments_other (Memory.loadBytes_wf hfront _ _) hlater]
  exact Memory.read_loadBytes_same hfront hi hown

/-! ### The special registers at reset (10_state.md R40, R545) -/

/-- Every special register but the draws and the constants of R40 reads 0: most of them are stored as 0, and rL is L. -/
theorem special_reset_eq_zero {r : SpecialReg} (hr : r ∉ [SpecialReg.rC, .rI, .rU, .rN, .rO, .rS, .rG]) :
    State.reset.special r = 0 := by
  cases r with
  | rC | rI | rU | rN | rO | rS | rG => simp at hr
  | rL | rB | rD | rE | rH | rJ | rM | rR | rBB | rT | rTT | rK | rQ | rV | rA | rF | rP | rW | rX | rY | rZ | rWW | rXX
  | rYY | rZZ => rfl

/-! ### The obligations -/

/-- Settles O58: a faulted state is the fault raised in the state before, whose frame is that of `faults_fails`. -/
theorem faultsArePrecise : Obligations.FaultsArePrecise := by
  unfold Obligations.FaultsArePrecise
  intro s t i r hs hexec ht
  rw [eq_raise_of_faulted hs hexec ht]
  exact faults_fails s r

/-- Settles O8: `load` answers `loaded` or refuses, and `loaded` has each part that the image decides. -/
theorem loadedStateIsInitial : Obligations.LoadedStateIsInitial := by
  unfold Obligations.LoadedStateIsInitial
  refine ⟨fun p img => ?_, fun p img s hload => ?_, load_eq_ok_iff.2 ⟨by decide, reset_eq_loaded⟩⟩
  · exact ⟨fun ⟨_, h⟩ => (load_eq_ok_iff.1 h).1, fun h => ⟨_, load_eq_ok_iff.2 ⟨h, rfl⟩⟩⟩
  · obtain ⟨⟨hentry, hgregs⟩, rfl⟩ := load_eq_ok_iff.1 hload
    refine ⟨loaded_inv p hentry hgregs, rfl, rfl, rfl, L_loaded p img, G_loaded p img,
      fun i hi => reg_loaded_greg p hi hgregs, fun k => reg_loaded_other p, rfl, rfl, rfl, fun a hc => ?_,
      fun front g later hsegs i hi hown hlater => ?_⟩
    · exact Memory.read_loadSegments_other reset_memory_wf hc
    · show (Memory.loadSegments [] img.segments).read _ = _
      rw [hsegs]
      exact Memory.read_loadSegments_segment reset_memory_wf hi hown hlater

/-- Settles O7: the registers are those of the empty image, the special registers those of R40. -/
theorem resetStateIsInitial : Obligations.ResetStateIsInitial := by
  unfold Obligations.ResetStateIsInitial
  have hreg (k : Byte) : State.reset.reg k = 0 := reg_loaded_other (img := {}) {} k.isLt
  exact ⟨rfl, rfl, rfl, hreg, fun _ => special_reset_eq_zero, by decide, rfl, by decide, rfl, rfl, fun _ => rfl, rfl,
    rfl⟩

end Sys2Proof.Machine
end
